-- ==== Sys2Proof/Word.lean ====
section
/-! DEFINITION. The bit-vector types of the N24 and their plainest arithmetic. -/

namespace Sys2Proof

/-- One byte of a frame, a row or a payload. -/
abbrev Byte := BitVec 8

/-- A 16-bit quantity: a setpoint, a sequence number, a statistics counter. -/
abbrev Half := BitVec 16

/-- A 32-bit quantity: a tick, a count, a stamp, a CRC-32. -/
abbrev Word := BitVec 32

/-- A 24-bit pin word: bit n is pin Pn (00_scope.md, "Pin words"). -/
abbrev PinWord := BitVec 24

/-- A pin number P0 to P23. -/
abbrev Pin := Fin 24

/-- The number of a pulse generator or of a counter/capture unit. -/
abbrev Unit4 := Fin 4

end Sys2Proof
end

