-- ==== Sys2Proof/Syntax.lean ====
section
/-! DEFINITION. The commands of the N24: one constructor of `Instr` for each row of the table of operations
and events, with the row's operands. -/

namespace Sys2Proof

/-- Table 9-1: the symbols of a link. A symbol error is none of these. -/
inductive Symbol where
  | data (b : Byte)
  | startDelimiter
  | endDelimiter
  | abortDelimiter
  | plainIdle
  | breakIdle (address : Byte)
deriving DecidableEq, Repr

/-- A data position of a frame as it arrives (R178): a byte, a symbol error, or an idle, which is taken as a
symbol error in that position although the link counts it as a valid symbol (R177). -/
inductive Sym where
  | byte (b : Byte)
  | error
  | idle
deriving DecidableEq, Repr

/-- R80: what the field circuit does at one pad when it is sampled. -/
inductive PadField where
  /-- Nothing attached. -/
  | floating
  /-- The circuit presents this level to an undriven pad and yields to a driven one. -/
  | level (high : Bool)
  /-- The circuit presents this level and overcomes the node's drive. -/
  | overcomes (high : Bool)
deriving DecidableEq, Repr

/-- R188: the four events that abort a frame. -/
inductive AbortCause where
  | linkDown
  | abortDelimiter
  | startDelimiter
  /-- A 565th data byte. -/
  | tooLong
deriving DecidableEq, Repr

/-- The fields of a good REQUEST segment (Table 8-1), but for its kind, its code (given by the command) and
its check (good). The payload holds 32 bytes; those from `length` on are ignored (R193). -/
structure Request where
  address : Byte
  tag : Byte
  flags : Byte
  length : Byte
  payload : List Byte
deriving DecidableEq, Repr

/-- The commands: the steps of spec/opcode_table.json. -/
inductive Instr where
  | powerReset
  | pinReset
  | softReset
  | endOfReset (field : List PadField)
  | validSymbol (sym : Symbol)
  | symbolError
  | linkUp
  | linkDownEvent
  | startDelimiter
  /-- The data symbols that complete the header; the last of them is the eighth header byte. -/
  | frameHeader (rest : List Sym)
  /-- The data symbols that complete the next-address field. -/
  | addressField (rest : List Sym)
  /-- The data symbols that complete a bad segment. -/
  | badSegment (rest : List Sym)
  /-- The 37 bytes of an EMPTY segment between its kind and its check. -/
  | emptySegment (body : List Byte)
  | identify (rq : Request)
  | readStatus (rq : Request)
  | readOwners (rq : Request)
  | badOpcode (code : Byte) (rq : Request)
  | openView (rq : Request)
  | readRows (rq : Request)
  | writeRows (rq : Request)
  | clone (rq : Request)
  | arm (rq : Request)
  | disarm (rq : Request)
  | forcePin (rq : Request)
  | releasePin (rq : Request)
  | enterFallback (rq : Request)
  | resume (rq : Request)
  | releaseAddress (rq : Request)
  | restart (rq : Request)
  | clearStats (rq : Request)
  | clearCause (rq : Request)
  | outCapture (row : Fin 32)
  | inValueTaken (row : Fin 32)
  | excessDataByte (b : Byte)
  | frameEnd
  | frameAbort (cause : AbortCause)
  | delimiterLeavesOut
  | sample (field : List PadField)
  | frameWatchExpiry
  | periodStart (n : Unit4)
  | widthReached (n : Unit4)
  | cloneComplete
  | validationComplete
  /-- `atSwitch`: the increment arrives at the same instant as the switch taken just before it (R121). -/
  | tickIncrement (atSwitch : Bool := false)
  | supplyGood
  | nrstRises
deriving DecidableEq, Repr

end Sys2Proof
end

