-- ==== Sys2Proof/Config.lean ====
section
/-! DEFINITION. The fixed numbers of the N24 and the one value its manual leaves open. -/

namespace Sys2Proof.Config

/-- R177: clean idles that take a SETTLING link to UP. -/
def settleIdles : Nat := 1024

/-- R182: the forwarding delay in byte times; the number of symbols on their way to OUT between frames. -/
def forwardDelay : Nat := 48

/-- R182: the most data bytes a frame carries. -/
def maxFrameBytes : Nat := 564

/-- R183: the greatest image length of a PROCESS header. -/
def maxImage : Nat := 512

/-- R2, R78: the sample divisor in use while A is 0. -/
def standbyDivisor : Nat := 10

/-- R94: the places of the event queue. -/
def queuePlaces : Nat := 32

/-- R132: the greatest node address. -/
def maxAddress : Nat := 250

/-- R137: ticks in one unit of the frame watch timeout. -/
def timeoutUnit : Nat := 100

/-- R169: the vendor code. -/
def vendorCode : Byte := 0xEC

/-- R169: the part code. -/
def partCode : Half := 0x2418

/-- R169: the revision. -/
def revision : Byte := 0x03

/-- R80: "A HIGHZ pin left open gives no defined reading". DESIGN CHOICE (entry 7): the reading is a free
value, one for each draw (the counter `freeCount`) and each pin. -/
opaque openReading : Nat → Nat → Bool

end Sys2Proof.Config
end

