-- ==== Sys2Proof/Machine/State.lean ====
section
/-! DEFINITION. The state of the N24, block by block (Table 0-1), as plain data; the value of every item after
reset; the stops of a step. -/

namespace Sys2Proof.Machine

/-! ### Bank Unit -/

/-- Chapter 1, 1.1: every row of every table is 8 bytes long (R1: it holds any byte values). -/
structure Row where
  b0 : Byte
  b1 : Byte
  b2 : Byte
  b3 : Byte
  b4 : Byte
  b5 : Byte
  b6 : Byte
  b7 : Byte
deriving DecidableEq, Repr

/-- A row of zero bytes. -/
def Row.zero : Row := ⟨0, 0, 0, 0, 0, 0, 0, 0⟩

/-- Table 1-1: one slot map, one pin table, one function table and one policy table. -/
structure Bank where
  slot : Vector Row 32
  pin : Vector Row 24
  func : Vector Row 8
  policy : Row
deriving DecidableEq, Repr

/-- R1: the zero bank. -/
def Bank.zero : Bank :=
  ⟨Vector.replicate 32 Row.zero, Vector.replicate 24 Row.zero, Vector.replicate 8 Row.zero, Row.zero⟩

/-- The two physical banks. -/
inductive BankId where
  | bank0
  | bank1
deriving DecidableEq, Repr

/-- R6: the long-operation state. -/
inductive LongOp where
  | idle
  | cloning
  | validating (g : Byte)
deriving DecidableEq, Repr

/-- The Bank Unit: two banks, their roles, A, S and the long-operation state. -/
structure BankUnit where
  bank0 : Bank
  bank1 : Bank
  /-- R3: the bank that holds the ACTIVE role; the other holds STAGED. -/
  active : BankId
  /-- R4: the active generation A. -/
  gen : Byte
  /-- R5: the armed generation S. -/
  armed : Option Byte
  longOp : LongOp
deriving DecidableEq, Repr

/-! ### Channel Store -/

/-- R27: a PGSET value. -/
structure Setpoint where
  period : Half
  width : Half
deriving DecidableEq, Repr

/-- R34: the frame-pending tier. -/
structure FramePending where
  dout : Option PinWord
  pgset : Vector (Option Setpoint) 4
  ccctl : Vector (Option Byte) 4
  evack : Option Half
deriving DecidableEq, Repr

/-- R35: one set of the strobe-pending tier. -/
structure StrobeSet where
  dout : Option PinWord
  pgset : Vector (Option Setpoint) 4
deriving DecidableEq, Repr

/-- The Channel Store: the three tiers and the clear-toggle memory. -/
structure ChannelStore where
  /-- R33: the current tier's DOUT word. -/
  dout : PinWord
  /-- R33: the current tier's PGSET values. -/
  pgset : Vector Setpoint 4
  framePending : FramePending
  strobePending : Option StrobeSet
  /-- R36: the clear-toggle memory. -/
  toggles : Vector Bool 4
deriving DecidableEq, Repr

/-- R34: the frame-pending tier with no value. -/
def FramePending.empty : FramePending :=
  ⟨none, Vector.replicate 4 none, Vector.replicate 4 none, none⟩

/-! ### Pin Resolver -/

/-- 3.1: the four pin states. -/
inductive PinState where
  | highz
  | pullup
  | low
  | high
deriving DecidableEq, Repr

/-- R62: the state of a force record. -/
inductive ForceState where
  | highz
  | low
  | high
deriving DecidableEq, Repr

/-- R60: the deciding source of a pin. -/
inductive Owner where
  | force
  | fallback
  | direct
  | pulse (n : Unit4)
  | idle
deriving DecidableEq, Repr

/-- The Pin Resolver: force records, held states and current owners. -/
structure PinResolver where
  force : Vector (Option ForceState) 24
  held : Vector (Option PinState) 24
  owner : Vector Owner 24
deriving DecidableEq, Repr

/-! ### Input Sampler -/

/-- The Input Sampler: timebase, debounce state, settle counts and snapshot. -/
structure InputSampler where
  /-- R77: the tick counter. -/
  tick : Word
  /-- R79: the sample phase, the ticks since the last one that took a sample. -/
  phase : Nat
  /-- R81: the debounced levels, bit n for Pn, 1 for HIGH. -/
  level : PinWord
  /-- R81: the run counts. -/
  run : Vector Nat 24
  /-- R84: the remaining settle counts. -/
  settle : Vector Nat 24
  /-- R89: the snapshot. -/
  snapshot : PinWord
  /-- R79: a tick has been judged to take a sample, and the sample has not been taken (entry 10). -/
  due : Bool
deriving DecidableEq, Repr

/-! ### Pulse generators and counter/capture units -/

/-- Table 6-1: the unit states; the phase position is held in RUNNING only. -/
inductive PulseState where
  | off
  | stopped
  | running (phase : Nat)
deriving DecidableEq, Repr

/-- R110: the state of a pulse generator. -/
structure PulseGen where
  state : PulseState
  period : Half
  width : Half
  nextPeriod : Half
  nextWidth : Half
  /-- R112: whether the output stands at the active level. -/
  outActive : Bool
  /-- R121: the unit restarted at a switch and no increment has been taken since (entry 23). -/
  restarted : Bool
deriving DecidableEq, Repr

/-- R124: the state of a counter/capture unit. -/
structure CounterCapture where
  count : Word
  stamp : Word
  ref : Option Word
deriving DecidableEq, Repr

/-! ### Event queue -/

/-- R94: an event record. -/
structure EventRecord where
  seq : Half
  pin : Pin
  /-- `true` for RISE, `false` for FALL. -/
  rise : Bool
  lostBefore : Byte
  stamp : Word
deriving DecidableEq, Repr

/-- R94: the event queue. -/
structure EventQueue where
  records : List EventRecord
  nextSeq : Half
  lost : Byte
deriving DecidableEq, Repr

/-! ### Mode Controller -/

/-- Table 7-1: the node modes. -/
inductive Mode where
  | unaddressed
  | standby
  | running
  | fallback
deriving DecidableEq, Repr

/-- R131: the fallback causes. -/
inductive Cause where
  | none
  | timeout
  | link
  | request
deriving DecidableEq, Repr

/-- R147: the reset cause record. -/
structure ResetCause where
  power : Bool
  pin : Bool
  soft : Bool
deriving DecidableEq, Repr

/-- R131: the state of the Mode Controller. -/
structure ModeController where
  address : Byte
  mode : Mode
  cause : Cause
  /-- R137: `none` when stopped, else the remaining time in ticks. -/
  timer : Option Nat
  /-- R145: restart pending; when set, the frame ends still to leave OUT until the carrying frame is out
  (entry 16). -/
  restart : Option Nat
  resetCause : ResetCause
deriving DecidableEq, Repr

/-! ### Management Exchange -/

/-- R161: a response as the exchange holds it; its length is that of its payload. -/
structure Response where
  tag : Byte
  code : Byte
  status : Byte
  flags : Byte
  payload : List Byte
deriving DecidableEq, Repr

/-- R152: the exchange slot. -/
inductive Slot where
  | idle
  | working (tag code : Byte)
  | answering (result : Response)
deriving DecidableEq, Repr

/-- R163: the role a view names. -/
inductive Role where
  | active
  | staged
deriving DecidableEq, Repr

/-- Table 1-1: the four tables. -/
inductive TableId where
  | slot
  | pin
  | func
  | policy
deriving DecidableEq, Repr

/-- R163: the view. -/
structure View where
  role : Role
  table : TableId
  next : Nat
deriving DecidableEq, Repr

/-- The Management Exchange. -/
structure ManagementExchange where
  slot : Slot
  last : Option Response
  view : View
deriving DecidableEq, Repr

/-! ### Frame Processor and Link Interface -/

/-- R183: the frame types. -/
inductive FrameType where
  | process
  | strobe
  | address
deriving DecidableEq, Repr

/-- R182: what the record knows of the header: not yet judged, bad, or good with the type and the image
length it carries. -/
inductive HeaderMark where
  | awaited
  | bad
  | good (type : FrameType) (imageLength : Nat)
deriving DecidableEq, Repr

/-- Table 1-6: the nine channels. -/
inductive Chan where
  | dout
  | pgset
  | ccctl
  | evack
  | snap
  | cccnt
  | ccstamp
  | evblk
  | nstat
deriving DecidableEq, Repr

/-- R40: the value of one IN channel instance as taken for the frame in passage. -/
structure Taken where
  chan : Chan
  inst : Byte
  value : List Byte
deriving DecidableEq, Repr

/-- R182: the working record of the frame in passage. -/
structure Frame where
  /-- The data positions as they arrived, the first first; their number is the length seen. -/
  arrived : List Sym
  header : HeaderMark
  /-- R8: the processed flag. -/
  processed : Bool
  /-- R8: the bank bound at the generation decision. -/
  bound : BankId
  /-- R178: the damaged mark. -/
  damaged : Bool
  /-- R133: the provisional address. -/
  provisional : Option Byte
  taken : List Taken
deriving DecidableEq, Repr

/-- The Frame Processor: the working record and the position (R169). -/
structure FrameProcessor where
  frame : Option Frame
  position : Byte
deriving DecidableEq, Repr

/-- R177: the IN link state. -/
inductive LinkState where
  | down
  | settling
  | up
deriving DecidableEq, Repr

/-- R180: the OUT transmit state. -/
inductive OutState where
  | silent
  | brk
  | idle
  | forwarding
deriving DecidableEq, Repr

/-- A symbol on its way to OUT. -/
inductive OutSym where
  | plainIdle
  | breakIdle (address : Byte)
  | startDelimiter
  | endDelimiter
  | abortDelimiter
  | data (b : Byte)
  /-- R178: an error symbol. -/
  | error
deriving DecidableEq, Repr

/-- The Link Interface. -/
structure LinkInterface where
  inState : LinkState
  cleanIdles : Nat
  /-- R181: the received break mark. -/
  breakMark : Option Byte
  out : OutState
  /-- R180 to R182: the symbols accepted for OUT that have not left it, the next to leave first (entry 5). -/
  line : List OutSym
  /-- The symbol errors received since the last valid symbol (R188: the run that led to DOWN; entry 6). -/
  errorRun : Nat
  /-- R182: after a 565th data byte, until the next end or abort delimiter (entry 13). -/
  discarding : Bool
deriving DecidableEq, Repr

/-! ### Statistics, reset hold, the state -/

/-- Table 8-9: the sixteen statistics counters, in payload order. -/
structure Stats where
  goodFrames : Half
  crcBad : Half
  headerErrors : Half
  aborted : Half
  linkDown : Half
  genMismatch : Half
  shortFrames : Half
  strobeOverruns : Half
  strobesApplied : Half
  consumed : Half
  left : Half
  displaced : Half
  replays : Half
  badAcks : Half
  maskedEdges : Half
  fallbackEntries : Half
deriving DecidableEq, Repr

/-- R146: how far one kind of reset has come: not in progress, waiting for the event that starts its hold
time (supply good, nRST risen), or in its hold time. -/
inductive HoldStage where
  | off
  | waiting
  | timing
deriving DecidableEq, Repr

/-- R146: the resets in progress. -/
structure ResetHold where
  power : HoldStage
  pin : HoldStage
  soft : HoldStage
deriving DecidableEq, Repr

/-- The whole node, the counter of free values and the queue of waiting commands. -/
structure State where
  banks : BankUnit
  store : ChannelStore
  pins : PinResolver
  sampler : InputSampler
  pg : Vector PulseGen 4
  cc : Vector CounterCapture 4
  queue : EventQueue
  mc : ModeController
  mx : ManagementExchange
  fp : FrameProcessor
  link : LinkInterface
  stats : Stats
  hold : ResetHold
  /-- The model's own: the next free value to draw (entry 7). -/
  freeCount : Nat
  /-- The model's own: the commands that wait, first in, first out. -/
  pending : List Instr
deriving DecidableEq, Repr

/-- No command of the N24 ends in a fault: its manual names no condition that stops the node. -/
inductive Fault : Type
deriving DecidableEq, Repr

/-- Why a command has no meaning. -/
inductive Refusal where
  /-- Raised by `exec` for a command that has not been given its meaning yet. Safe: the run stops. -/
  | notModelled (mnemonic : String)
deriving DecidableEq, Repr

/-! ### Reset values -/

/-- R1, R3, R4, R5, R6: the Bank Unit after every reset. -/
def BankUnit.reset : BankUnit := ⟨Bank.zero, Bank.zero, .bank0, 0, none, .idle⟩

/-- R33 to R36: the Channel Store after every reset. -/
def ChannelStore.reset : ChannelStore :=
  ⟨0, Vector.replicate 4 ⟨0, 0⟩, FramePending.empty, none, Vector.replicate 4 false⟩

/-- R60, R62, R67, R75: the Pin Resolver after every reset. -/
def PinResolver.reset : PinResolver :=
  ⟨Vector.replicate 24 none, Vector.replicate 24 none, Vector.replicate 24 .idle⟩

/-- R90: the Input Sampler after every reset, for the raw levels of the first sample. -/
def InputSampler.reset (firstSample : PinWord) : InputSampler :=
  ⟨0, 0, firstSample, Vector.replicate 24 0, Vector.replicate 24 0, 0, false⟩

/-- R123: a pulse generator after every reset. -/
def PulseGen.reset : PulseGen := ⟨.off, 0, 0, 0, 0, false, false⟩

/-- R127, R130: a cleared counter/capture unit. -/
def CounterCapture.cleared : CounterCapture := ⟨0, 0, none⟩

/-- R108: the event queue after every reset. -/
def EventQueue.reset : EventQueue := ⟨[], 0, 0⟩

/-- R131: the Mode Controller after a reset that left this reset cause record. -/
def ModeController.reset (cause : ResetCause) : ModeController :=
  ⟨0, .unaddressed, .none, none, none, cause⟩

/-- R176: the Management Exchange after every reset. -/
def ManagementExchange.reset : ManagementExchange := ⟨.idle, none, ⟨.active, .slot, 0⟩⟩

/-- R190: the Frame Processor after every reset. -/
def FrameProcessor.reset : FrameProcessor := ⟨none, 0⟩

/-- R190: the Link Interface after every reset, but for the OUT transmit state. -/
def LinkInterface.reset (out : OutState) : LinkInterface := ⟨.down, 0, none, out, [], 0, false⟩

/-- R10, R55, R86, R102, R148, R174, R179, R189: every counter 0. -/
def Stats.zero : Stats := ⟨0, 0, 0, 0, 0, 0, 0, 0, 0, 0, 0, 0, 0, 0, 0, 0⟩

/-- The node right after a POWER reset (R146, R147, R190). DESIGN CHOICE (entry 9): the first sample found
every pad LOW. -/
def State.reset : State where
  banks := BankUnit.reset
  store := ChannelStore.reset
  pins := PinResolver.reset
  sampler := InputSampler.reset 0
  pg := Vector.replicate 4 PulseGen.reset
  cc := Vector.replicate 4 CounterCapture.cleared
  queue := EventQueue.reset
  mc := ModeController.reset ⟨true, false, false⟩
  mx := ManagementExchange.reset
  fp := FrameProcessor.reset
  link := LinkInterface.reset .brk
  stats := Stats.zero
  hold := ⟨.off, .off, .off⟩
  freeCount := 0
  pending := []

end Sys2Proof.Machine
end

