-- ==== Sys2Proof/Machine/Operands.lean ====
section
/-! DEFINITION. The formats of Chapter 10: byte order, checks, table rows, headers, segments, channel values. -/

namespace Sys2Proof.Machine

/-! ### Byte order (R191) -/

/-- R191: a 16-bit field from its two bytes, least significant first. -/
def le16 (lo hi : Byte) : Half := hi ++ lo

/-- R191: a 16-bit field as two bytes, least significant first. -/
def bytes16 (h : Half) : List Byte := [h.extractLsb' 0 8, h.extractLsb' 8 8]

/-- R191: a pin word as three bytes; byte 0 holds P0 to P7. -/
def bytes24 (w : PinWord) : List Byte := [w.extractLsb' 0 8, w.extractLsb' 8 8, w.extractLsb' 16 8]

/-- R191: a 32-bit field as four bytes, least significant first. -/
def bytes32 (w : Word) : List Byte :=
  [w.extractLsb' 0 8, w.extractLsb' 8 8, w.extractLsb' 16 8, w.extractLsb' 24 8]

/-- R191: a pin word from its three bytes. -/
def le24 (b0 b1 b2 : Byte) : PinWord := (b2 ++ b1 ++ b0 : BitVec 24)

/-- The pin word whose bit n is `f` at Pn. -/
def pinWord (f : Pin → Bool) : PinWord := (BitVec.ofBoolListLE ((List.finRange 24).map f)).setWidth 24

/-- R178: an error symbol counts as a data byte of value 0x00. -/
def Sym.value : Sym → Byte
  | .byte b => b
  | .error | .idle => 0

/-- R178: the position damages the frame. -/
def Sym.damages : Sym → Bool
  | .byte _ => false
  | .error | .idle => true

/-- The arriving symbol as it would leave unchanged (R182; R178: an error symbol leaves as one). -/
def Sym.out : Sym → OutSym
  | .byte b => .data b
  | .error | .idle => .error

/-- R178, R192: the byte an outgoing position of a frame counts as in the outgoing CRC. -/
def OutSym.byte : OutSym → Byte
  | .data b => b
  | _ => 0

/-! ### Checks (R192, Table 10-1): most significant bit first, no reflection -/

/-- `n` shifts of a check register, each reduced by the polynomial. -/
def crcShift {w : Nat} (poly : BitVec w) : Nat → BitVec w → BitVec w
  | 0, c => c
  | n + 1, c => crcShift poly n (if c.msb then (c <<< 1) ^^^ poly else c <<< 1)

/-- One byte into a check register of at least 8 bits. -/
def crcByte {w : Nat} (poly c : BitVec w) (b : Byte) : BitVec w :=
  crcShift poly 8 (c ^^^ (b.setWidth w <<< (w - 8)))

/-- R192: the header check. -/
def crc8 (bytes : List Byte) : Byte := bytes.foldl (crcByte 0x07#8) 0x00#8

/-- R192: the segment check. -/
def crc16 (bytes : List Byte) : Half := bytes.foldl (crcByte 0x1021#16) 0xFFFF#16

/-- R192: the trailer check, complemented at the end. -/
def crc32 (bytes : List Byte) : Word := ~~~ (bytes.foldl (crcByte 0x04C11DB7#32) 0xFFFFFFFF#32)

/-! ### Rows (Table 10-6) -/

/-- A row from eight bytes in row order; a byte that is not there counts as 0. -/
def Row.ofBytes (bs : List Byte) : Row :=
  ⟨bs.getD 0 0, bs.getD 1 0, bs.getD 2 0, bs.getD 3 0, bs.getD 4 0, bs.getD 5 0, bs.getD 6 0, bs.getD 7 0⟩

/-- The eight bytes of a row. -/
def Row.bytes (r : Row) : List Byte := [r.b0, r.b1, r.b2, r.b3, r.b4, r.b5, r.b6, r.b7]

/-- Table 1-3: the claimant list in order of preference. -/
def Row.claimants (r : Row) : List Byte := [r.b0, r.b1, r.b2]

/-- Whether a claimant code is named among the row's three claimants. -/
def Row.names (r : Row) (code : Byte) : Bool := r.claimants.contains code

/-- Table 1-3: the pin's idle state. A code outside the table never stands in the ACTIVE role (R23); it is
read as HIGHZ (entry 12). -/
def Row.idleState (r : Row) : PinState :=
  if r.b3 = 1 then .pullup else if r.b3 = 2 then .low else if r.b3 = 3 then .high else .highz

/-- Table 1-3: the pin's debounce count. -/
def Row.debounce (r : Row) : Nat := r.b5.toNat

/-- Table 1-3: the pin's settle count. -/
def Row.settle (r : Row) : Nat := r.b6.toNat

/-- R92, Table 5-1: whether an edge's direction matches the row's watch polarity. -/
def Row.watches (r : Row) (rise : Bool) : Bool := r.b7 == 2 || r.b7 == (if rise then 0 else 1)

/-- Table 1-4: the enable of a function row. -/
def Row.unitEnabled (r : Row) : Bool := r.b0 == 1

/-- Table 1-4: whether a PG row's active level is HIGH. -/
def Row.activeHigh (r : Row) : Bool := r.b1 == 1

/-- Table 1-5: the frame watch timeout in units of 100 µs. -/
def Row.timeout (r : Row) : Nat := (le16 r.b0 r.b1).toNat

/-- Table 1-5: the sample divisor. -/
def Row.divisor (r : Row) : Nat := r.b2.toNat

/-- Table 1-5: whether the apply mode is STROBED. -/
def Row.strobed (r : Row) : Bool := r.b3 == 1

/-- Table 1-5: whether the resume policy is ON_FRAME. -/
def Row.onFrame (r : Row) : Bool := r.b4 == 1

/-- Table 1-5: whether the force permit is YES. -/
def Row.permit (r : Row) : Bool := r.b5 == 1

/-! ### Channels (Tables 1-6 and 2-1) -/

/-- Table 10-14: the channel of a code; none for 0x00 and for a code outside the table. -/
def Chan.ofCode (c : Byte) : Option Chan :=
  if c = 0x01 then some .dout else if c = 0x02 then some .pgset
  else if c = 0x03 then some .ccctl else if c = 0x04 then some .evack
  else if c = 0x81 then some .snap else if c = 0x82 then some .cccnt
  else if c = 0x83 then some .ccstamp else if c = 0x84 then some .evblk
  else if c = 0x85 then some .nstat else none

/-- Table 1-6: whether the channel's direction is IN. -/
def Chan.isIn : Chan → Bool
  | .dout | .pgset | .ccctl | .evack => false
  | .snap | .cccnt | .ccstamp | .evblk | .nstat => true

/-- Table 1-6: the number of instances. -/
def Chan.instances : Chan → Nat
  | .pgset | .ccctl | .cccnt | .ccstamp => 4
  | .dout | .evack | .snap | .evblk | .nstat => 1

/-- Table 1-6: the width in the image, for an entry with this count. -/
def Chan.width (count : Nat) : Chan → Nat
  | .dout | .snap => 3
  | .pgset | .cccnt | .ccstamp => 4
  | .ccctl => 1
  | .evack | .nstat => 2
  | .evblk => 2 + 8 * count

/-- A slot row's channel. -/
def Row.chan (r : Row) : Option Chan := Chan.ofCode r.b0

/-- A slot row's offset in the image. -/
def Row.offset (r : Row) : Nat := (le16 r.b2 r.b3).toNat

/-- A slot row's count K. -/
def Row.count (r : Row) : Nat := r.b4.toNat

/-- The bytes a slot row covers; none for a disabled entry. -/
def Row.width (r : Row) : Nat :=
  match r.chan with
  | none => 0
  | some c => c.width r.count

/-- Table 1-2: a slot row is enabled unless its channel code is 0x00. -/
def Row.slotEnabled (r : Row) : Bool := r.b0 != 0

/-- R37: the entry lies within an image of `L` bytes. -/
def Row.fits (r : Row) (L : Nat) : Bool := r.offset + r.width ≤ L

/-- An enabled OUT entry within an image of `L` bytes (R39). -/
def Row.outWithin (r : Row) (L : Nat) : Bool :=
  match r.chan with
  | none => false
  | some c => !c.isIn && r.fits L

/-- An enabled IN entry within an image of `L` bytes (R40). -/
def Row.inWithin (r : Row) (L : Nat) : Bool :=
  match r.chan with
  | none => false
  | some c => c.isIn && r.fits L

/-- The entry covers image byte `i` (Table 1-6: from its offset to its offset plus its width minus one). -/
def Row.covers (r : Row) (i : Nat) : Bool := r.offset ≤ i && i < r.offset + r.width

/-! ### Headers (Table 10-2) -/

/-- What a good header says to the node. -/
structure Header where
  type : FrameType
  gen : Byte
  length : Nat
  hop : Byte
deriving DecidableEq, Repr

/-- R183: the frame type of a code. -/
def FrameType.ofCode (c : Byte) : Option FrameType :=
  if c = 0xA1 then some .process else if c = 0xA2 then some .strobe
  else if c = 0xA3 then some .address else none

/-- R183: the header in eight bytes that hold no symbol error, or none when it is bad. -/
def headerOfBytes (bs : List Byte) : Option Header :=
  match FrameType.ofCode (bs.getD 0 0) with
  | none => none
  | some t =>
    let L := (le16 (bs.getD 4 0) (bs.getD 5 0)).toNat
    if crc8 (bs.take 7) ≠ bs.getD 7 0 then none
    else if t = .process ∧ Config.maxImage < L then none
    else some ⟨t, bs.getD 1 0, L, bs.getD 6 0⟩

/-- R183: the header in eight arriving symbols, or none when it is bad. -/
def judgeHeader (syms : List Sym) : Option Header :=
  if syms.any Sym.damages then none else headerOfBytes (syms.map Sym.value)

/-- R184: the hop count as sent. -/
def nextHop (hop : Byte) : Byte := if hop = 255 then 255 else hop + 1

/-- R184: the eight header bytes as sent: the hop count incremented, the check recomputed. -/
def sentHeader (bs : List Byte) : List Byte :=
  let first := bs.take 6 ++ [nextHop (bs.getD 6 0)]
  first ++ [crc8 first]

/-- R185: the expected length of a frame with a good header. -/
def expectedLength (t : FrameType) (L : Nat) : Nat :=
  match t with
  | .process => 52 + L
  | .strobe => 12
  | .address => 14

/-! ### Segments (Table 10-4) -/

/-- A segment's 38 bytes with its check after them. -/
def withCheck (body : List Byte) : List Byte := body ++ bytes16 (crc16 body)

/-- Thirty-two payload bytes: those given, then zeros. -/
def payload32 (p : List Byte) : List Byte := (List.range 32).map fun i => p.getD i 0

/-- The 40 bytes of a good REQUEST segment. -/
def requestBytes (code : Byte) (rq : Request) : List Byte :=
  withCheck ([1, rq.address, rq.tag, code, rq.flags, rq.length] ++ payload32 rq.payload)

/-- R151: the 40 bytes of a RESPONSE segment from the node with this address. -/
def Response.bytes (r : Response) (address : Byte) : List Byte :=
  withCheck ([2, address, r.tag, r.status, r.flags, BitVec.ofNat 8 r.payload.length] ++ payload32 r.payload)

/-- The 40 bytes of an EMPTY segment with these 37 bytes after its kind. -/
def emptyBytes (body : List Byte) : List Byte :=
  withCheck (0 :: (List.range 37).map fun i => body.getD i 0)

/-- R150: forty arriving symbols that make a bad segment: a symbol error, a failed check or an unknown kind. -/
def badSegmentSyms (syms : List Sym) : Bool :=
  let bs := syms.map Sym.value
  syms.any Sym.damages || bytes16 (crc16 (bs.take 38)) != bs.drop 38 || 2 < (bs.getD 0 0).toNat

/-- Payload byte `i` of a request (R193). -/
def requestByte (rq : Request) (i : Nat) : Byte := rq.payload.getD i 0

/-- R193: the fields of the request segment in these 40 bytes. -/
def Request.ofBytes (bs : List Byte) : Request :=
  ⟨bs.getD 1 0, bs.getD 2 0, bs.getD 4 0, bs.getD 5 0, (bs.drop 6).take 32⟩

/-- The number of payload bytes that count (R193). -/
def requestSize (rq : Request) : Nat := rq.length.toNat

/-! ### Codes (Tables 10-12 and 10-13) -/

/-- Table 10-12: the seventeen request codes. -/
def knownCodes : List Byte :=
  [0x01, 0x02, 0x03, 0x10, 0x11, 0x12, 0x20, 0x21, 0x22, 0x30, 0x31, 0x40, 0x41, 0x42, 0x43, 0x50, 0x51]

/-- Table 10-13. -/
def stOk : Byte := 0x00
/-- Table 10-13. -/
def stAccepted : Byte := 0x01
/-- Table 10-13. -/
def stBadOpcode : Byte := 0x80
/-- Table 10-13. -/
def stBadLength : Byte := 0x81
/-- Table 10-13. -/
def stRange : Byte := 0x82
/-- Table 10-13. -/
def stReadOnly : Byte := 0x83
/-- Table 10-13. -/
def stWrongMode : Byte := 0x84
/-- Table 10-13. -/
def stRefused : Byte := 0x85
/-- Table 10-13. -/
def stInvalid : Byte := 0x86
/-- Table 10-13. -/
def stBadGen : Byte := 0x87

/-- Table 10-4: the REPLAY flag. -/
def flReplay : Byte := 0x01
/-- Table 10-4: the DISPLACED flag. -/
def flDisplaced : Byte := 0x02
/-- Table 10-4: the DISARMED flag. -/
def flDisarmed : Byte := 0x04

/-- Table 10-14: the table of an identifier. -/
def TableId.ofCode (c : Byte) : Option TableId :=
  if c = 0 then some .slot else if c = 1 then some .pin
  else if c = 2 then some .func else if c = 3 then some .policy else none

/-- Table 10-14: the identifier of a table. -/
def TableId.code : TableId → Byte
  | .slot => 0
  | .pin => 1
  | .func => 2
  | .policy => 3

/-- Table 1-1: the rows of a table. -/
def TableId.size : TableId → Nat
  | .slot => 32
  | .pin => 24
  | .func => 8
  | .policy => 1

/-! ### Event records (Table 10-8) -/

/-- A record's place of eight bytes. -/
def EventRecord.bytes (r : EventRecord) : List Byte :=
  bytes16 r.seq ++ [BitVec.ofNat 8 r.pin.val ||| (if r.rise then 0x00 else 0x80), r.lostBefore] ++ bytes32 r.stamp

/-- R31: an event block with `k` places: P, the depth, the P oldest records, zeros. -/
def eventBlock (k : Nat) (q : EventQueue) : List Byte :=
  let p := min k q.records.length
  [BitVec.ofNat 8 p, BitVec.ofNat 8 q.records.length]
    ++ (q.records.take p).flatMap EventRecord.bytes ++ List.replicate (8 * (k - p)) 0

end Sys2Proof.Machine
end

