-- ==== Sys2Proof/Machine/Flags.lean ====
section
/-! DEFINITION. Status bytes, report payloads and statistics counters. -/

namespace Sys2Proof.Machine

/-- 00_scope.md, "Saturating counters": a 16-bit count that holds at 65535. -/
def satInc (c : Half) : Half := if c = 0xFFFF then 0xFFFF else c + 1

/-- `n` increments of a saturating counter. -/
def satAdd (c : Half) (n : Nat) : Half := BitVec.ofNat 16 (min 65535 (c.toNat + n))

/-- R194: the mode's code. -/
def Mode.code : Mode → Byte
  | .unaddressed => 0
  | .standby => 1
  | .running => 2
  | .fallback => 3

/-- R194: the fallback cause's code. -/
def Cause.code : Cause → Byte
  | .none => 0
  | .timeout => 1
  | .link => 2
  | .request => 3

/-- Table 10-8, NSTAT byte 0: mode in bits 0 and 1, fallback cause in bits 4 and 5. -/
def modeCauseByte (mc : ModeController) : Byte := mc.mode.code ||| (mc.cause.code <<< 4)

/-- R62: the number of force records held. -/
def forceCount (pr : PinResolver) : Nat := pr.force.toList.countP Option.isSome

/-- One flag in bit `k` of a byte. -/
def flagBit (k : Nat) (on : Bool) : Byte := if on then 1#8 <<< k else 0

/-- R32, Table 10-8, NSTAT byte 1: ARMED, FORCED, LOSS, BUSY. -/
def nstatFlags (s : State) : Byte :=
  flagBit 0 s.banks.armed.isSome ||| flagBit 1 (forceCount s.pins != 0)
    ||| flagBit 2 (s.queue.lost != 0) ||| flagBit 3 (s.mx.slot != .idle)

/-- R194: the reset cause record as a byte. -/
def resetCauseByte (c : ResetCause) : Byte := flagBit 0 c.power ||| flagBit 1 c.pin ||| flagBit 2 c.soft

/-- Table 8-8: the exchange state's code. -/
def Slot.code : Slot → Byte
  | .idle => 0
  | .working _ _ => 1
  | .answering _ => 2

/-- R169, Table 10-9: the IDENTIFY payload. -/
def identifyPayload (s : State) : List Byte :=
  [Config.vendorCode] ++ bytes16 Config.partCode ++
  [Config.revision, s.mc.address, modeCauseByte s.mc, s.banks.gen, s.banks.armed.getD 0, s.mx.slot.code,
   resetCauseByte s.mc.resetCause, BitVec.ofNat 8 s.queue.records.length, s.queue.lost,
   BitVec.ofNat 8 (forceCount s.pins), s.fp.position, 0, 0]

/-- Table 8-9: the counters in payload order. -/
def Stats.list (c : Stats) : List Half :=
  [c.goodFrames, c.crcBad, c.headerErrors, c.aborted, c.linkDown, c.genMismatch, c.shortFrames,
   c.strobeOverruns, c.strobesApplied, c.consumed, c.left, c.displaced, c.replays, c.badAcks,
   c.maskedEdges, c.fallbackEntries]

/-- R170, Table 10-10: the READ STATUS payload. -/
def statusPayload (s : State) : List Byte := s.stats.list.flatMap bytes16

/-- Table 10-11: the code of an owner. -/
def Owner.code : Owner → Byte
  | .idle => 0x00
  | .direct => 0x01
  | .pulse n => BitVec.ofNat 8 (2 + n.val)
  | .force => 0xF0
  | .fallback => 0xF1

/-- 3.1: a pin is driven in LOW and HIGH. -/
def PinState.driven : PinState → Bool
  | .low | .high => true
  | .highz | .pullup => false

/-- R74: the level reported: HIGH of a driven pin, the pull-up of an undriven one. -/
def PinState.reported : PinState → Bool
  | .high | .pullup => true
  | .low | .highz => false

/-- The pin state that is LOW or HIGH. -/
def PinState.ofLevel (high : Bool) : PinState := if high then .high else .low

/-- R59: the pin state a force record gives. -/
def ForceState.pinState : ForceState → PinState
  | .highz => .highz
  | .low => .low
  | .high => .high

/-- R63: the state a FORCE PIN code names; PULLUP cannot be forced. -/
def ForceState.ofCode (c : Byte) : Option ForceState :=
  if c = 0 then some .highz else if c = 2 then some .low else if c = 3 then some .high else none

end Sys2Proof.Machine
end

