-- ==== Sys2Proof/Machine/Validation.lean ====
section
/-! DEFINITION. The validation of a bank by ARM (R20 to R24). -/

namespace Sys2Proof.Machine

/-- Table 1-10: the reason codes. -/
inductive Reason where
  | badValue
  | overlap
  | duplicate
  | range
  | unplaced
  | multiplaced
deriving DecidableEq, Repr

/-- Table 1-10. -/
def Reason.code : Reason → Byte
  | .badValue => 1
  | .overlap => 2
  | .duplicate => 3
  | .range => 4
  | .unplaced => 5
  | .multiplaced => 6

/-- R20: an INVALID result. -/
structure Invalid where
  table : TableId
  row : Nat
  reason : Reason
deriving DecidableEq, Repr

/-- R21: the policy row fails with BAD_VALUE. -/
def policyBad (r : Row) : Bool :=
  r.timeout == 0 || r.divisor == 0 || 1 < r.b3.toNat || 1 < r.b4.toNat || 1 < r.b5.toNat || r.b6 != 0 || r.b7 != 0

/-- R22: function row `i` fails with BAD_VALUE. -/
def funcBad (i : Nat) (r : Row) : Bool :=
  1 < r.b0.toNat || (if i < 4 then 1 < r.b1.toNat else 3 < r.b1.toNat)
    || r.b2 != 0 || r.b3 != 0 || r.b4 != 0 || r.b5 != 0 || r.b6 != 0 || r.b7 != 0

/-- R23, check 1: a pin row has a field outside its codes. -/
def pinBadValue (r : Row) : Bool :=
  10 < r.b0.toNat || 10 < r.b1.toNat || 10 < r.b2.toNat || 3 < r.b3.toNat || 3 < r.b4.toNat
    || 15 < r.b5.toNat || 15 < r.b6.toNat || 2 < r.b7.toNat

/-- R23, check 2: one claimant code other than NONE appears more than once. -/
def pinDuplicate (r : Row) : Bool :=
  (r.b0 != 0 && (r.b0 == r.b1 || r.b0 == r.b2)) || (r.b1 != 0 && r.b1 == r.b2)

/-- Table 1-7: the claimant codes of PG0 to PG3 and CC0 to CC3. -/
def isUnitCode (c : Byte) : Bool := 2 ≤ c.toNat && c.toNat ≤ 9

/-- R23, check 3: a PG or CC unit named in the row is also named in an earlier one. -/
def pinMultiplaced (earlier : List Row) (r : Row) : Bool :=
  r.claimants.any fun c => isUnitCode c && earlier.any fun e => e.names c

/-- R23: the first failing check of a pin row. -/
def pinRowReason (earlier : List Row) (r : Row) : Option Reason :=
  if pinBadValue r then some .badValue
  else if pinDuplicate r then some .duplicate
  else if pinMultiplaced earlier r then some .multiplaced
  else none

/-- R24, check 1. -/
def slotBadValue (r : Row) : Bool :=
  match r.chan with
  | none => true
  | some c =>
    c.instances ≤ r.b1.toNat
      || (if c = .evblk then r.count == 0 || 8 < r.count else r.b4 != 0)
      || r.b5 != 0 || r.b6 != 0 || r.b7 != 0

/-- R24, check 3 against one earlier entry: a repeated OUT channel instance, or a second EVBLK or EVACK. -/
def slotDuplicates (r e : Row) : Bool :=
  match r.chan, e.chan with
  | some c, some d =>
    (c == d) && ((!c.isIn && r.b1 == e.b1) || c == .evblk || c == .evack)
  | _, _ => false

/-- R24, check 4 against one earlier entry: two IN entries that cover a common byte. -/
def slotOverlaps (r e : Row) : Bool :=
  match r.chan, e.chan with
  | some c, some d =>
    c.isIn && d.isIn && r.offset < e.offset + e.width && e.offset < r.offset + r.width
  | _, _ => false

/-- R24: the first failing check of an enabled slot row, compared with the enabled entries before it. -/
def slotRowReason (earlier : List Row) (r : Row) : Option Reason :=
  if slotBadValue r then some .badValue
  else if Config.maxImage < r.offset + r.width then some .range
  else if earlier.any (slotDuplicates r) then some .duplicate
  else if earlier.any (slotOverlaps r) then some .overlap
  else none

/-- The first row of a list for which a check gives a reason, with its number; the check sees the rows
before it. -/
def firstBad (check : List Row → Nat → Row → Option Reason) : List Row → Nat → List Row → Option (Nat × Reason)
  | _, _, [] => none
  | earlier, i, r :: rest =>
    match check earlier i r with
    | some w => some (i, w)
    | none => firstBad check (earlier ++ [r]) (i + 1) rest

/-- R23, the fourth check: the first enabled unit that no pin row names. -/
def firstUnplaced (b : Bank) : Option Nat :=
  ((List.finRange 8).find? fun i =>
    b.func[i].unitEnabled && !(b.pin.toList.any fun r => r.names (BitVec.ofNat 8 (2 + i.val)))).map Fin.val

/-- R22. -/
def funcCheck (_ : List Row) (i : Nat) (r : Row) : Option Reason :=
  if funcBad i r then some .badValue else none

/-- R23. -/
def pinCheck (earlier : List Row) (_ : Nat) (r : Row) : Option Reason := pinRowReason earlier r

/-- R24: disabled entries are skipped and not compared with. -/
def slotCheck (earlier : List Row) (_ : Nat) (r : Row) : Option Reason :=
  if r.slotEnabled then slotRowReason (earlier.filter Row.slotEnabled) r else none

/-- R20: the first failure in validation order, or none when every check passes. -/
def validate (b : Bank) : Option Invalid :=
  if policyBad b.policy then some ⟨.policy, 0, .badValue⟩
  else match firstBad funcCheck [] 0 b.func.toList with
  | some (i, w) => some ⟨.func, i, w⟩
  | none =>
  match firstBad pinCheck [] 0 b.pin.toList with
  | some (i, w) => some ⟨.pin, i, w⟩
  | none =>
  match firstUnplaced b with
  | some i => some ⟨.func, i, .unplaced⟩
  | none =>
  match firstBad slotCheck [] 0 b.slot.toList with
  | some (i, w) => some ⟨.slot, i, w⟩
  | none => none

end Sys2Proof.Machine
end

