-- ==== Sys2Proof/Machine/Ops.lean ====
section
/-! DEFINITION. The shared operations of the N24's blocks: banks, pins, pulse generators, counters, event queue,
fallback, the switch, the line to OUT, segments and answers. -/

namespace Sys2Proof.Machine

/-! ### Banks and tables -/

/-- The other physical bank. -/
def BankId.other : BankId → BankId
  | .bank0 => .bank1
  | .bank1 => .bank0

/-- The contents of a physical bank. -/
def BankUnit.bank (u : BankUnit) : BankId → Bank
  | .bank0 => u.bank0
  | .bank1 => u.bank1

/-- R2: the bank in the ACTIVE role. -/
def BankUnit.activeBank (u : BankUnit) : Bank := u.bank u.active

/-- R2: the bank in the STAGED role. -/
def BankUnit.stagedBank (u : BankUnit) : Bank := u.bank u.active.other

/-- R1: both ways of storing rows store into the bank that holds the STAGED role. -/
def BankUnit.setStaged (u : BankUnit) (b : Bank) : BankUnit :=
  match u.active with
  | .bank0 => { u with bank1 := b }
  | .bank1 => { u with bank0 := b }

/-- The bank in the role a view names (R163). -/
def BankUnit.inRole (u : BankUnit) : Role → Bank
  | .active => u.activeBank
  | .staged => u.stagedBank

/-- A row of a table; a zero row beyond the table's end. -/
def Bank.row (b : Bank) (t : TableId) (i : Nat) : Row :=
  match t with
  | .slot => b.slot[i]?.getD Row.zero
  | .pin => b.pin[i]?.getD Row.zero
  | .func => b.func[i]?.getD Row.zero
  | .policy => if i = 0 then b.policy else Row.zero

/-- The bank with one row of a table stored; unchanged beyond the table's end. -/
def Bank.setRow (b : Bank) (t : TableId) (i : Nat) (r : Row) : Bank :=
  match t with
  | .slot => { b with slot := b.slot.setIfInBounds i r }
  | .pin => { b with pin := b.pin.setIfInBounds i r }
  | .func => { b with func := b.func.setIfInBounds i r }
  | .policy => if i = 0 then { b with policy := r } else b

/-- R14: rows stored one after the other from row `i` on. -/
def Bank.setRows (b : Bank) (t : TableId) : Nat → List Row → Bank
  | _, [] => b
  | i, r :: rs => (b.setRow t i r).setRows t (i + 1) rs

/-- R15: `n` rows from row `i` on. -/
def Bank.rows (b : Bank) (t : TableId) (i n : Nat) : List Row := (List.range n).map fun k => b.row t (i + k)

/-- The ACTIVE policy row. -/
def State.policy (s : State) : Row := s.banks.activeBank.policy

/-- R56: the ACTIVE row of a pin. -/
def State.pinRow (s : State) (n : Pin) : Row := s.banks.activeBank.pin[n]

/-- R2, R78: the sample divisor in use. -/
def State.divisor (s : State) : Nat := if s.banks.gen = 0 then Config.standbyDivisor else s.policy.divisor

/-- R2, R81: the debounce value of a pin in use. -/
def State.debounceOf (s : State) (n : Pin) : Nat := if s.banks.gen = 0 then 0 else (s.pinRow n).debounce

/-- The function row of a pulse generator (Table 1-4). -/
def Bank.pgRow (b : Bank) (n : Unit4) : Row := b.func[n.val]'(by have := n.isLt; omega)

/-- The function row of a counter/capture unit (Table 1-4). -/
def Bank.ccRow (b : Bank) (n : Unit4) : Row := b.func[4 + n.val]'(by have := n.isLt; omega)

/-- R146: the node is held in reset while any reset is in progress. -/
def State.held (s : State) : Bool := s.hold.power != .off || s.hold.pin != .off || s.hold.soft != .off

/-! ### Pin Resolver -/

/-- R57, R110: a pulse generator is active exactly while it is RUNNING. -/
def PulseGen.active (u : PulseGen) : Bool :=
  match u.state with
  | .running _ => true
  | _ => false

/-- R56, R57: the owner a claimant code gives when it names an active output claimant. -/
def claimOwner (pg : Vector PulseGen 4) (code : Byte) : Option Owner :=
  if code = 1 then some .direct
  else if code = 2 then if pg[0].active then some (.pulse 0) else none
  else if code = 3 then if pg[1].active then some (.pulse 1) else none
  else if code = 4 then if pg[2].active then some (.pulse 2) else none
  else if code = 5 then if pg[3].active then some (.pulse 3) else none
  else none

/-- R58, Table 3-1: the deciding source of a pin. -/
def State.deciding (s : State) (n : Pin) : Owner :=
  if s.pins.force[n].isSome then .force
  else if s.mc.mode = .fallback then .fallback
  else ((s.pinRow n).claimants.findSome? (claimOwner s.pg)).getD .idle

/-- R112: the level a pulse generator's output stands at. -/
def State.pulseLevel (s : State) (n : Unit4) : Bool := (s.banks.activeBank.pgRow n).activeHigh == s.pg[n].outActive

/-- R66: the state a pin's fallback action gives. A code outside the table never stands in the ACTIVE role
(R23); it is read as HOLD (entry 12). A held state is there in FALLBACK (R67); none counts as HIGHZ. -/
def State.fallbackState (s : State) (n : Pin) : PinState :=
  let r := s.pinRow n
  if r.b4 = 1 then r.idleState else if r.b4 = 2 then .low else if r.b4 = 3 then .high
  else s.pins.held[n].getD .highz

/-- R59: the pin state the current owner gives; R75: HIGHZ while the node is held in reset. -/
def State.pinState (s : State) (n : Pin) : PinState :=
  if s.held then .highz
  else match s.pins.owner[n] with
  | .force => (s.pins.force[n].map ForceState.pinState).getD .highz
  | .fallback => s.fallbackState n
  | .direct => .ofLevel (s.store.dout.getLsbD n.val)
  | .pulse k => .ofLevel (s.pulseLevel k)
  | .idle => (s.pinRow n).idleState

/-- R58, R70, R72: every pin is decided anew; a pin whose owner changes, or for which `listChanged` holds
(R71), has an ownership change and takes its settle count. -/
def State.redecideWith (listChanged : Pin → Bool) (s : State) : State :=
  { s with
    pins := { s.pins with owner := Vector.ofFn fun n => s.deciding n }
    sampler := { s.sampler with
      settle := Vector.ofFn fun n =>
        if s.deciding n ≠ s.pins.owner[n] ∨ listChanged n = true then (s.pinRow n).settle
        else s.sampler.settle[n] } }

/-- R58: every pin is decided anew at an event that is not a switch. -/
def State.redecide (s : State) : State := s.redecideWith fun _ => false

/-- R74, Table 10-11: the READ OWNERS payload. -/
def ownersPayload (s : State) : List Byte :=
  (s.pins.owner.toList.map Owner.code)
    ++ bytes24 (pinWord fun n => (s.pinState n).driven)
    ++ bytes24 (pinWord fun n => (s.pinState n).reported)

/-! ### Pulse generators -/

/-- R114, R117, R121: a period starts with the next values, phase position 0. -/
def PulseGen.start (u : PulseGen) : PulseGen :=
  ⟨.running 0, u.nextPeriod, u.nextWidth, u.nextPeriod, u.nextWidth, u.nextWidth != 0, false⟩

/-- R116, R121: the unit without a phase: its period 0, its output ceased. -/
def PulseGen.halt (u : PulseGen) (st : PulseState) (width : Half) : PulseGen :=
  ⟨st, 0, width, u.nextPeriod, u.nextWidth, false, false⟩

/-- R111, R115 to R118, Table 6-3: a setpoint handed to the unit. -/
def PulseGen.take (u : PulseGen) (p : Setpoint) : PulseGen :=
  let v := { u with nextPeriod := p.period, nextWidth := p.width }
  match u.state with
  | .off => v
  | .stopped => if p.period = 0 then v else v.start
  | .running _ => if p.period = 0 then v.halt .stopped p.width else v

/-- R121: a unit whose function row differs restarts from its new row. -/
def PulseGen.restart (u : PulseGen) (row : Row) : PulseGen :=
  if !row.unitEnabled then u.halt .off 0
  else if u.nextPeriod = 0 then u.halt .stopped u.nextWidth
  else { u.start with restarted := true }

/-- R33, R111: a PGSET value enters the current tier and is handed to its unit, whose change of activity is
handed to the Pin Resolver (R119). -/
def enterSetpoint (p : Option Setpoint) (n : Unit4) (s : State) : State :=
  match p with
  | none => s
  | some p =>
    State.redecide { s with
      store := { s.store with pgset := s.store.pgset.set n p }
      pg := s.pg.set n (s.pg[n].take p) }

/-- R33, R45, R51: the DOUT and PGSET values of a set enter the current tier. -/
def enterOutputs (o : StrobeSet) (s : State) : State :=
  let s1 := { s with store := { s.store with dout := o.dout.getD s.store.dout } }
  enterSetpoint o.pgset[3] 3 (enterSetpoint o.pgset[2] 2 (enterSetpoint o.pgset[1] 1 (enterSetpoint o.pgset[0] 0 s1)))

/-! ### Counter/capture units -/

/-- R125, R126: a delivered edge at a unit with this function row. -/
def CounterCapture.edge (u : CounterCapture) (row : Row) (rise : Bool) (stamp : Word) : CounterCapture :=
  if !row.unitEnabled then u
  else if row.b1 = 3 then
    if rise then
      match u.ref with
      | none => { u with ref := some stamp }
      | some r => ⟨stamp - r, stamp, some stamp⟩
    else u
  else if row.b1 = 2 ∨ (row.b1 = 0 ∧ rise = true) ∨ (row.b1 = 1 ∧ rise = false) then
    { u with count := u.count + 1, stamp := stamp }
  else u

/-! ### Event queue -/

/-- R95: the oldest number. -/
def EventQueue.oldest (q : EventQueue) : Half :=
  match q.records with
  | [] => q.nextSeq
  | r :: _ => r.seq

/-- R96, R97: an edge posted to the queue. -/
def EventQueue.post (q : EventQueue) (n : Pin) (rise : Bool) (stamp : Word) : EventQueue :=
  if q.records.length < Config.queuePlaces then
    ⟨q.records ++ [⟨q.nextSeq, n, rise, q.lost, stamp⟩], q.nextSeq + 1, 0⟩
  else { q with lost := if q.lost = 255 then 255 else q.lost + 1 }

/-- R100 to R102, Table 5-2: an acknowledgement and whether it is a bad one. -/
def EventQueue.ack (q : EventQueue) (a : Half) : EventQueue × Bool :=
  let d := (a - q.oldest).toNat
  if d < q.records.length then ({ q with records := q.records.drop (d + 1) }, false)
  else (q, d ≠ 65535)

/-! ### Mode Controller -/

/-- R137: the timer is started or restarted with the ACTIVE timeout. -/
def State.startTimer (s : State) : State :=
  { s with mc := { s.mc with timer := some (s.policy.timeout * Config.timeoutUnit) } }

/-- R140: entry to FALLBACK from RUNNING with this cause (R67: the held states, R68: the owners). -/
def State.enterFallback (c : Cause) (s : State) : State :=
  State.redecide { s with
    mc := { s.mc with mode := .fallback, cause := c, timer := none }
    stats := { s.stats with fallbackEntries := satInc s.stats.fallbackEntries }
    pins := { s.pins with held := Vector.ofFn fun n => some (s.pinState n) } }

/-- R142: departure from FALLBACK (R69: the owners). -/
def State.leaveFallback (s : State) : State :=
  State.redecide (State.startTimer { s with mc := { s.mc with mode := .running } })

/-! ### The switch (R11, R12) -/

/-- R121: each pulse generator at a switch from one bank to another. -/
def switchPulse (old new : Bank) (pg : Vector PulseGen 4) : Vector PulseGen 4 :=
  Vector.ofFn fun n => if old.pgRow n = new.pgRow n then pg[n] else pg[n].restart (new.pgRow n)

/-- R128: each counter/capture unit at a switch. -/
def switchCounters (old new : Bank) (cc : Vector CounterCapture 4) : Vector CounterCapture 4 :=
  Vector.ofFn fun n => if old.ccRow n = new.ccRow n then cc[n] else CounterCapture.cleared

/-- R71: the three claimants differ between a pin's old and new rows. -/
def listDiffers (old new : Bank) (n : Pin) : Bool := old.pin[n].claimants != new.pin[n].claimants

/-- R136: the Mode Controller's part of a switch. -/
def switchMode (newPolicy : Row) (mc : ModeController) : ModeController :=
  if mc.mode = .standby then
    { mc with mode := .running, timer := some (newPolicy.timeout * Config.timeoutUnit) }
  else mc

/-- R11: the switch to generation `g` with the switch notice's effects: the strobe-pending set (R54), the
force records (R65), the units (R121, R128), the mode (R136), the owners (R71). -/
def State.switchTo (g : Byte) (s : State) : State :=
  let old := s.banks.activeBank
  let new := s.banks.stagedBank
  State.redecideWith (listDiffers old new) { s with
    banks := { s.banks with active := s.banks.active.other, gen := g, armed := none }
    store := { s.store with strobePending := none }
    pins := { s.pins with force := if new.policy.permit then s.pins.force else Vector.replicate 24 none }
    pg := switchPulse old new s.pg
    cc := switchCounters old new s.cc
    mc := switchMode new.policy s.mc }

/-- R53, R89: the snapshot is latched. -/
def State.latch (s : State) : State := { s with sampler := { s.sampler with snapshot := s.sampler.level } }

/-! ### The line to OUT and the working record (R180 to R182) -/

/-- An idle of the line between frames. -/
def OutSym.isIdle : OutSym → Bool
  | .plainIdle | .breakIdle _ => true
  | _ => false

/-- An end or abort delimiter. -/
def OutSym.isEnding : OutSym → Bool
  | .endDelimiter | .abortDelimiter => true
  | _ => false

/-- The idles at the head of the line leave OUT a forwarding delay after they were received. A delimiter
leaves with DELIMITER_LEAVES_OUT, and what is before it with it. -/
def drain : List OutSym → List OutSym
  | [] => []
  | x :: xs => if x.isIdle ∧ Config.forwardDelay ≤ xs.length then drain xs else x :: xs

/-- Symbols are put on the line. -/
def State.push (xs : List OutSym) (s : State) : State :=
  { s with link := { s.link with line := drain (s.link.line ++ xs) } }

/-- The last `k` symbols of a line replaced. -/
def replaceTail (k : Nat) (xs line : List OutSym) : List OutSym := line.take (line.length - k) ++ xs

/-- The working record is opened, updated or closed. -/
def State.setFrame (f : Option Frame) (s : State) : State := { s with fp := { s.fp with frame := f } }

/-- A statistics update. -/
def State.setStats (c : Stats) (s : State) : State := { s with stats := c }

/-- R182: a record newly opened at a start delimiter. -/
def Frame.opened (bound : BankId) : Frame := ⟨[], .awaited, false, bound, false, none, []⟩

/-- The run of symbol errors after these symbols (entry 6); an idle ends it, being a valid symbol (R177). -/
def errorRunAfter (run : Nat) (syms : List Sym) : Nat :=
  syms.foldl (fun k x => if x = .error then k + 1 else 0) run

/-- Data symbols of the frame in passage arrive as `arr` and leave as `out`. -/
def State.passSymbols (f : Frame) (arr : List Sym) (out : List OutSym) (s : State) : State :=
  State.push out (State.setFrame
    (some { f with arrived := f.arrived ++ arr, damaged := f.damaged || arr.any Sym.damages })
    { s with link := { s.link with errorRun := errorRunAfter s.link.errorRun arr } })

/-- R178: bytes written over outgoing positions; an error symbol is still sent as an error symbol. -/
def overwrite (old : List OutSym) (bytes : List Byte) : List OutSym :=
  List.zipWith (fun x b => if x = .error then .error else .data b) old bytes

/-- R187: the outgoing trailer position, the last four positions of the frame so far, is written with the
CRC-32 over the `n - 4` bytes the frame has sent before it, inverted when the frame is bad. -/
def writeTrailer (n : Nat) (good : Bool) (line : List OutSym) : List OutSym :=
  let front := line.take (line.length - 4)
  let crc := crc32 ((front.drop (front.length - (n - 4))).map OutSym.byte)
  front ++ overwrite (line.drop (line.length - 4)) (bytes32 (if good then crc else ~~~crc))

/-- R187: a data symbol is about to arrive after the trailer position of a frame with a good header: the
trailer position is written poisoned. -/
def State.poisonIfExcess (f : Frame) (s : State) : State :=
  match f.header with
  | .good t L =>
    if f.arrived.length = expectedLength t L then
      { s with link := { s.link with line := writeTrailer f.arrived.length false s.link.line } }
    else s
  | _ => s

/-- R40: the byte that leaves in image position `i` of the frame: that of an IN value taken, or the arriving
one. -/
def imageByte (rows : List Row) (taken : List Taken) (L i : Nat) (b : Byte) : Byte :=
  ((rows.find? fun r => r.inWithin L && r.covers i).bind fun r =>
    (taken.find? fun t => some t.chan == r.chan && t.inst == r.b1).map fun t =>
      t.value.getD (i - r.offset) 0).getD b

/-- R37, R40: the byte that leaves in the frame's next data position. -/
def State.sentByte (f : Frame) (s : State) (b : Byte) : Byte :=
  match f.header with
  | .good .process L =>
    if f.processed = true ∧ 48 ≤ f.arrived.length ∧ f.arrived.length - 48 < L then
      imageByte (s.banks.bank f.bound).slot.toList f.taken L (f.arrived.length - 48) b
    else b
  | _ => b

/-- R9, R34, R49: the frame-pending tier is emptied. -/
def State.emptyPending (s : State) : State :=
  { s with store := { s.store with framePending := FramePending.empty } }

/-- R188: the frame in passage is aborted; `headless`: the event is one at which a frame without its header
is judged (R183, entry 14). -/
def State.abortFrame (f : Frame) (headless : Bool) (s : State) : State :=
  let c := { s.stats with aborted := satInc s.stats.aborted }
  let c := if headless = true ∧ f.header = .awaited then { c with headerErrors := satInc c.headerErrors } else c
  State.push [.abortDelimiter] (State.emptyPending (State.setFrame none (State.setStats c s)))

/-- R182, R187, R188: a 565th data symbol. -/
def State.tooLong (f : Frame) (s : State) : State :=
  let t := State.abortFrame f false (State.poisonIfExcess f s)
  { t with link := { t.link with discarding := true } }

/-- R37, R178: what leaves in the frame's next data position. -/
def State.sentSymbol (f : Frame) (s : State) : Sym → OutSym
  | .byte b => .data (s.sentByte f b)
  | .error | .idle => .error

/-- R178, R182: one data position of the frame in passage: a byte, or an error symbol. -/
def State.frameSymbol (f : Frame) (x : Sym) (s : State) : State :=
  if f.arrived.length = Config.maxFrameBytes then
    State.tooLong f { s with link := { s.link with errorRun := errorRunAfter s.link.errorRun [x] } }
  else State.passSymbols f [x] [s.sentSymbol f x] (State.poisonIfExcess f s)

/-- R181: an idle position that carries no idle of its own. -/
def relayMark (mark : Option Byte) : OutSym :=
  match mark with
  | none => .plainIdle
  | some a => .breakIdle a

/-! ### The frame end (R44 to R49, R186, R187) -/

/-- R186: the verdict on the trailer of a frame with a good header. -/
def Frame.trailerGood (f : Frame) (t : FrameType) (L : Nat) : Bool :=
  let n := expectedLength t L
  !f.damaged && f.arrived.length == n
    && (f.arrived.drop (n - 4)).map Sym.value == bytes32 (crc32 ((f.arrived.take (n - 4)).map Sym.value))

/-- R46: the strobe-pending tier takes the set of a good processed frame. -/
def fillStrobe (o : StrobeSet) (s : State) : State :=
  if o.dout = none ∧ o.pgset = Vector.replicate 4 none then s
  else { s with
    store := { s.store with strobePending := some o }
    stats := if s.store.strobePending.isSome then
        { s.stats with strobeOverruns := satInc s.stats.strobeOverruns } else s.stats }

/-- R47: the clear toggles of a good processed frame. -/
def takeToggles (v : Vector (Option Byte) 4) (s : State) : State :=
  { s with
    cc := Vector.ofFn fun n =>
      match v[n] with
      | none => s.cc[n]
      | some b => if b.getLsbD 0 ≠ s.store.toggles[n] then CounterCapture.cleared else s.cc[n]
    store := { s.store with toggles := Vector.ofFn fun n =>
      match v[n] with
      | none => s.store.toggles[n]
      | some b => b.getLsbD 0 } }

/-- R48: an EVACK value is handed to the event queue. -/
def takeAck (a : Option Half) (s : State) : State :=
  match a with
  | none => s
  | some a =>
    let (q, bad) := s.queue.ack a
    { s with
      queue := q
      stats := if bad then { s.stats with badAcks := satInc s.stats.badAcks } else s.stats }

/-- R137, R143: a good processed frame end at the Mode Controller; `policy` is the row bound at the decision. -/
def goodFrameAtMode (policy : Row) (s : State) : State :=
  if s.mc.mode = .running then s.startTimer
  else if s.mc.mode = .fallback ∧ policy.onFrame = true ∧ (s.mc.cause = .timeout ∨ s.mc.cause = .link) then
    s.leaveFallback
  else s

/-- R44: the frame-pending tier of a good processed frame is applied under the bound bank's policy. -/
def applyFrame (policy : Row) (s : State) : State :=
  let p := s.store.framePending
  let o : StrobeSet := ⟨p.dout, p.pgset⟩
  let s1 := if policy.strobed then fillStrobe o s else enterOutputs o s
  goodFrameAtMode policy (takeAck p.evack (takeToggles p.ccctl s1))

/-- R134: a good ADDRESS frame end at a node that took a provisional address. -/
def takeAddress (a : Option Byte) (s : State) : State :=
  match a with
  | none => s
  | some a => { s with mc := { s.mc with address := a, mode := .standby } }

/-- R186: the verdict handed to the blocks. -/
def deliverVerdict (f : Frame) (t : FrameType) (good : Bool) (s : State) : State :=
  match t with
  | .process =>
    State.emptyPending (if f.processed = true ∧ good = true then applyFrame (s.banks.bank f.bound).policy s else s)
  | .strobe => s
  | .address => if good then takeAddress f.provisional s else s

/-- R187: the outgoing trailer at a frame end; none is written for a frame without a trailer position, and
that of a frame longer than expected has been written before. -/
def endTrailer (f : Frame) (t : FrameType) (L : Nat) (good : Bool) (line : List OutSym) : List OutSym :=
  if 12 ≤ f.arrived.length ∧ f.arrived.length ≤ expectedLength t L then
    writeTrailer f.arrived.length good line
  else line

/-- R186: the end delimiter of the frame in passage arrives. -/
def State.endFrame (f : Frame) (s : State) : State :=
  match f.header with
  | .awaited =>
    State.push [.endDelimiter] (State.emptyPending (State.setFrame none (State.setStats
      { s.stats with headerErrors := satInc s.stats.headerErrors } s)))
  | .bad => State.push [.endDelimiter] (State.emptyPending (State.setFrame none s))
  | .good t L =>
    let good := f.trailerGood t L
    let c := if good then { s.stats with goodFrames := satInc s.stats.goodFrames }
      else { s.stats with crcBad := satInc s.stats.crcBad }
    let s1 := State.setFrame none (State.setStats c
      { s with link := { s.link with line := endTrailer f t L good s.link.line } })
    deliverVerdict f t good (State.push [.endDelimiter] s1)

/-! ### Segments and answers (Chapter 8) -/

/-- What a request's execution gives: the answer's status, flags and payload, and whether the answer becomes
the last-answered record (R156). -/
structure Answer where
  status : Byte
  flags : Byte
  payload : List Byte
  recorded : Bool
deriving DecidableEq, Repr

/-- An answer without payload that is recorded. -/
def Answer.plain (status flags : Byte) : Answer := ⟨status, flags, [], true⟩

/-- The response to a request with this tag and code. -/
def Answer.response (a : Answer) (code : Byte) (rq : Request) : Response :=
  ⟨rq.tag, code, a.status, a.flags, a.payload⟩

/-- R149: the frame has a place for a management segment. -/
def Frame.hasSegment (f : Frame) : Bool :=
  match f.header with
  | .good .process _ => true
  | .bad => true
  | _ => false

/-- R149: this segment completes in the frame: what has arrived of the frame's segment is the beginning of it. -/
def Frame.segmentDue (f : Frame) (bytes : List Byte) : Bool :=
  f.hasSegment && 8 ≤ f.arrived.length && f.arrived.length < 48
    && f.arrived.drop 8 == (bytes.take (f.arrived.length - 8)).map Sym.byte

/-- R149: the segment is handed to the Management Exchange: the header is good, of type PROCESS, and the
node's address is not 0. -/
def State.handsOver (f : Frame) (s : State) : Bool :=
  (match f.header with
    | .good .process _ => true
    | _ => false) && s.mc.address != 0

/-- The segment that arrives as `arr` completes and leaves as `out`: the symbols of it that had arrived are
replaced on the line, the rest follow them (R149, R151). -/
def State.passSegment (f : Frame) (arr : List Sym) (out : List OutSym) (s : State) : State :=
  let k := f.arrived.length - 8
  State.passSymbols f (arr.drop k) (out.drop k)
    { s with link := { s.link with line := replaceTail k (out.take k) s.link.line } }

/-- A segment without a symbol error completes; it leaves as it arrived. -/
def State.forwardSegment (f : Frame) (bytes : List Byte) (s : State) : State :=
  s.passSegment f (bytes.map Sym.byte) (bytes.map OutSym.data)

/-- R151: a segment without a symbol error completes; a response leaves in its place. -/
def State.answerSegment (f : Frame) (bytes : List Byte) (r : Response) (address : Byte) (s : State) : State :=
  s.passSegment f (bytes.map Sym.byte) ((r.bytes address).map OutSym.data)

/-- R149 to R151, R153: a good REQUEST segment, these bytes, completes. `handle` gives the response that is to
leave in its place, if any, and the node's next state; a segment that is not handed over or is to another
address is forwarded. -/
def State.requestArrives (f : Frame) (bytes : List Byte) (rq : Request)
    (handle : State → Option Response × State) (s : State) : State :=
  if s.handsOver f = true ∧ rq.address = s.mc.address then
    match handle s with
    | (none, t) => t.forwardSegment f bytes
    | (some r, t) => t.answerSegment f bytes r s.mc.address
  else s.forwardSegment f bytes

/-- The step of a good REQUEST segment with this code. -/
def State.withRequest (code : Byte) (rq : Request) (handle : State → Option Response × State) (s : State) : State :=
  if s.held then s
  else match s.fp.frame with
  | none => s
  | some f =>
    if f.segmentDue (requestBytes code rq) then s.requestArrives f (requestBytes code rq) rq handle else s

/-- R174: a request is consumed. -/
def State.countConsumed (s : State) : State :=
  s.setStats { s.stats with consumed := satInc s.stats.consumed }

/-- The exchange slot is set. -/
def State.setSlot (x : Slot) (s : State) : State := { s with mx := { s.mx with slot := x } }

/-- R161: the last-answered record is set. -/
def State.setLast (r : Response) (s : State) : State := { s with mx := { s.mx with last := some r } }

/-- R154, R155: a request answered in its own segment whatever the slot: consumed, not recorded. -/
def answerAtOnce (code : Byte) (rq : Request) (answer : State → Answer) (s : State) : Option Response × State :=
  (some ((answer s).response code rq), s.countConsumed)

/-- R154: a read-only request with no payload. -/
def readOnlyAnswer (rq : Request) (payload : State → List Byte) (s : State) : Answer :=
  if requestSize rq ≠ 0 then ⟨stBadLength, 0, [], false⟩ else ⟨stOk, 0, payload s, false⟩

/-- R162: whether the last-answered record answers this request. -/
def replays (last : Option Response) (code : Byte) (rq : Request) : Option Response :=
  last.filter fun r => r.tag == rq.tag && r.code == code

/-- R157: a request is left. -/
def State.countLeft (s : State) : State := s.setStats { s.stats with left := satInc s.stats.left }

/-- R158: a request is displaced by the pending result; the slot goes to IDLE. -/
def State.displace (s : State) : State :=
  State.setSlot .idle (s.setStats { s.stats with displaced := satInc s.stats.displaced })

/-- R162: a replay is counted. -/
def State.countReplay (s : State) : State :=
  s.countConsumed.setStats { s.countConsumed.stats with replays := satInc s.stats.replays }

/-- R156: a replayable or long request that is executed (or refused, or started) and answered. -/
def executeRequest (code : Byte) (rq : Request) (perform : State → Answer × State) (s : State) :
    Option Response × State :=
  let (a, t) := perform s.countConsumed
  let r := a.response code rq
  (some r, if a.recorded then t.setLast r else t)

/-- R156 to R158, Table 8-4: a replayable or long request to this node. -/
def replayable (code : Byte) (rq : Request) (perform : State → Answer × State) (s : State) :
    Option Response × State :=
  match s.mx.slot with
  | .working _ _ => (none, s.countLeft)
  | .answering r => (some { r with flags := r.flags ||| flDisplaced }, s.displace)
  | .idle =>
    match replays s.mx.last code rq with
    | some r => (some { r with flags := r.flags ||| flReplay }, s.countReplay)
    | none => executeRequest code rq perform s

/-- A request that carries no payload: BAD_LENGTH otherwise, and nothing changes. -/
def noPayload (rq : Request) (perform : State → Answer × State) (s : State) : Answer × State :=
  if requestSize rq ≠ 0 then (.plain stBadLength 0, s) else perform s

/-- R173: the DISARMED flag of a request that clears S. -/
def disarmedFlag (s : State) : Byte := if s.banks.armed.isSome then flDisarmed else 0

/-- S is cleared to none (R5). -/
def State.clearArmed (s : State) : State := { s with banks := { s.banks with armed := none } }

/-! ### Reset (R146, R147) -/

/-- R75, R108, R146, R180: the node's state from the beginning of a reset: every item at its reset value,
OUT SILENT, with this reset cause record and these resets in progress. The counter of free values and the
command queue are not the node's. -/
def State.beginReset (cause : ResetCause) (hold : ResetHold) (s : State) : State :=
  { State.reset with
    mc := ModeController.reset cause
    link := LinkInterface.reset .silent
    hold := hold
    freeCount := s.freeCount
    pending := s.pending }

/-! ### Sampling (R79 to R88) -/

/-- R80: the reading of a pad in this pin state, with what the field circuit does; `free` is the undefined
reading of a HIGHZ pin left open. -/
def padReading (st : PinState) (field : PadField) (free : Bool) : Bool :=
  match field, st with
  | .overcomes h, _ => h
  | _, .low => false
  | _, .high => true
  | .level h, _ => h
  | .floating, .pullup => true
  | .floating, .highz => free

/-- R80: the raw levels of a sample. -/
def State.rawLevels (field : List PadField) (s : State) : PinWord :=
  pinWord fun n =>
    padReading (s.pinState n) (field.getD n.val .floating) (Config.openReading s.freeCount n.val)

/-- R81: the debounce step of one pin: whether the level changes, and the run count after it. -/
def debounceStep (b : Nat) (raw level : Bool) (run : Nat) : Bool × Nat :=
  if raw = level then (false, 0)
  else if b + 1 ≤ run + 1 then (true, 0)
  else (false, run + 1)

/-- R87, R88, R92: one unmasked edge delivered to the counter/capture units and the Edge Event Unit. -/
def State.deliverEdge (n : Pin) (rise : Bool) (s : State) : State :=
  let row := s.pinRow n
  { s with
    cc := Vector.ofFn fun k =>
      if row.names (BitVec.ofNat 8 (6 + k.val)) then
        s.cc[k].edge (s.banks.activeBank.ccRow k) rise s.sampler.tick
      else s.cc[k]
    queue := if row.names 10 && row.watches rise then s.queue.post n rise s.sampler.tick else s.queue }

/-- R81: whether the sample with these raw levels gives pin `n` an edge. -/
def State.edgeAt (raw : PinWord) (s : State) (n : Pin) : Bool :=
  (debounceStep (s.debounceOf n) (raw.getLsbD n.val) (s.sampler.level.getLsbD n.val) s.sampler.run[n]).1

/-- R81, R84, R85: the sampler after a sample with these raw levels, before its edges are delivered. -/
def State.sampled (raw : PinWord) (s : State) : State :=
  { s with
    sampler := { s.sampler with
      due := false
      level := pinWord fun n => if s.edgeAt raw n then raw.getLsbD n.val else s.sampler.level.getLsbD n.val
      run := Vector.ofFn fun n =>
        (debounceStep (s.debounceOf n) (raw.getLsbD n.val) (s.sampler.level.getLsbD n.val) s.sampler.run[n]).2
      settle := Vector.ofFn fun n => s.sampler.settle[n] - 1 }
    stats := { s.stats with
      maskedEdges := satAdd s.stats.maskedEdges
        ((List.finRange 24).countP fun n => s.edgeAt raw n && s.sampler.settle[n] != 0) } }

/-- R87, R88: the pins whose edge at this sample is delivered, in ascending order. -/
def State.deliveredPins (raw : PinWord) (s : State) : List Pin :=
  (List.finRange 24).filter fun n => s.edgeAt raw n && s.sampler.settle[n] == 0

/-- R79 to R88: one sample of the pads. -/
def State.takeSample (raw : PinWord) (s : State) : State :=
  (s.deliveredPins raw).foldl (fun t n => t.deliverEdge n (raw.getLsbD n.val)) (s.sampled raw)

end Sys2Proof.Machine
end

