-- ==== Sys2Proof/Machine/Headers.lean ====
section
/-! DEFINITION. The header of a frame: judgement, generation decision, switch, STROBE; the next-address field of
an ADDRESS frame (R7 to R13, R38, R50 to R53, R133, R135, R183, R184). -/

namespace Sys2Proof.Machine

/-! ### The header -/

/-- Table 1-8: the outcomes of the generation decision. -/
inductive Decision where
  | managementOnly
  | switch
  | processed
  | mismatch
deriving DecidableEq, Repr

/-- R7: the generation decision for a header generation at a Bank Unit. -/
def decideGeneration (u : BankUnit) (g : Byte) : Decision :=
  if g = 0 then .managementOnly
  else if u.armed = some g then .switch
  else if u.gen ≠ 0 ∧ g = u.gen then .processed
  else .mismatch

/-- R38: at least one enabled entry of the slot map lies beyond an image of `L` bytes. -/
def skipsEntry (slots : List Row) (L : Nat) : Bool := slots.any fun r => r.slotEnabled && !r.fits L

/-- R8, R38, R53: a processed header: the processed flag and the bound bank, the short-frame count, the
snapshot in IMMEDIATE mode. -/
def State.bindFrame (L : Nat) (f : Frame) (s : State) : State :=
  let b := s.banks.activeBank
  let s1 := s.setFrame (some { f with processed := true, bound := s.banks.active })
  let s2 := if skipsEntry b.slot.toList L then
      s1.setStats { s.stats with shortFrames := satInc s.stats.shortFrames } else s1
  if b.policy.strobed then s2 else s2.latch

/-- R7, R10, R11: the header of a PROCESS frame at the Bank Unit; `f` is its record. -/
def State.processHeader (h : Header) (f : Frame) (s : State) : State :=
  if s.mc.address = 0 then s.setFrame (some f)
  else match decideGeneration s.banks h.gen with
  | .managementOnly => s.setFrame (some f)
  | .switch => (s.switchTo h.gen).bindFrame h.length f
  | .processed => s.bindFrame h.length f
  | .mismatch =>
    (s.setStats { s.stats with genMismatch := satInc s.stats.genMismatch }).setFrame (some f)

/-- R51: a STROBE acted on in STROBED mode. -/
def State.applyStrobe (s : State) : State :=
  match s.store.strobePending with
  | none => s.latch
  | some o =>
    let t := enterOutputs o s
    State.latch { t with
      store := { t.store with strobePending := none }
      stats := { t.stats with strobesApplied := satInc t.stats.strobesApplied } }

/-- R50 to R52: the header of a STROBE frame. -/
def State.strobeHeader (h : Header) (s : State) : State :=
  if s.banks.gen ≠ 0 ∧ h.gen = s.banks.gen ∧ s.policy.strobed = true then s.applyStrobe else s

/-- R184: a good header is handed on by its type. -/
def State.handOn (h : Header) (f : Frame) (s : State) : State :=
  match h.type with
  | .process => s.processHeader h f
  | .strobe => (s.setFrame (some f)).strobeHeader h
  | .address => s.setFrame (some f)

/-- R183: a bad header is counted and forwarded as it arrived. -/
def State.badHeader (f : Frame) (rest : List Sym) (s : State) : State :=
  (s.setStats { s.stats with headerErrors := satInc s.stats.headerErrors }).passSymbols
    { f with header := .bad } rest (rest.map Sym.out)

/-- R184: a good header: the hop count and the check are written into the outgoing header, and the arriving
hop count is the position. -/
def State.goodHeader (h : Header) (f : Frame) (rest : List Sym) (s : State) : State :=
  let syms := f.arrived ++ rest
  let out := (sentHeader (syms.map Sym.value)).map OutSym.data
  let s1 := { s with
    link := { s.link with
      line := drain (replaceTail f.arrived.length out s.link.line)
      errorRun := 0 }
    fp := { s.fp with position := h.hop } }
  s1.handOn h { f with arrived := syms, header := .good h.type h.length }

/-- R183: the eighth header byte of the frame in passage arrives, with the header symbols that came with it. -/
def State.headerArrives (f : Frame) (rest : List Sym) (s : State) : State :=
  match judgeHeader (f.arrived ++ rest) with
  | none => s.badHeader f rest
  | some h => s.goodHeader h f rest

/-- These symbols complete the header of this frame. -/
def Frame.headerDue (f : Frame) (rest : List Sym) : Bool :=
  f.header == .awaited && f.arrived.length + rest.length == 8 && !rest.isEmpty

/-- FRAME_HEADER (R183). -/
def execFrameHeader (rest : List Sym) (s : State) : Host.Outcome State Fault Refusal :=
  .next (if s.held then s
    else match s.fp.frame with
    | none => s
    | some f => if f.headerDue rest then s.headerArrives f rest else s)

/-! ### The next-address field -/

/-- R133: the next-address field in two arriving symbols; an error symbol counts as 0x00 (entry 11). -/
def nextAddress (syms : List Sym) : Half :=
  le16 (Sym.value (syms.getD 0 .error)) (Sym.value (syms.getD 1 .error))

/-- R133: the provisional address a field value gives an UNADDRESSED node. -/
def provisionalOf (n : Half) : Option Byte :=
  if 1 ≤ n.toNat ∧ n.toNat ≤ Config.maxAddress then some (n.extractLsb' 0 8) else none

/-- These symbols complete the next-address field of this frame. -/
def Frame.fieldDue (f : Frame) (rest : List Sym) : Bool :=
  (match f.header with
    | .good .address _ => true
    | _ => false) && 8 ≤ f.arrived.length && f.arrived.length + rest.length == 10 && !rest.isEmpty

/-- R133, R135: both bytes of the field have arrived. -/
def State.fieldArrives (f : Frame) (rest : List Sym) (s : State) : State :=
  let syms := f.arrived.drop 8 ++ rest
  let n := nextAddress syms
  if s.mc.mode = .unaddressed ∧ (provisionalOf n).isSome then
    let out := overwrite (syms.map Sym.out) (bytes16 (n + 1))
    let s1 := { s with link := { s.link with line := replaceTail (f.arrived.length - 8) [] s.link.line } }
    s1.passSymbols { f with provisional := provisionalOf n } rest out
  else s.passSymbols f rest (rest.map Sym.out)

/-- ADDRESS_FIELD (R133). -/
def execAddressField (rest : List Sym) (s : State) : Host.Outcome State Fault Refusal :=
  .next (if s.held then s
    else match s.fp.frame with
    | none => s
    | some f => if f.fieldDue rest then s.fieldArrives f rest else s)

end Sys2Proof.Machine
end

