-- ==== Sys2Proof/Machine/Segments.lean ====
section
/-! DEFINITION. The management segments: bad and EMPTY segments, and the seventeen requests (Chapter 8). -/

namespace Sys2Proof.Machine

/-! ### Segments that carry no request -/

/-- R150: these symbols complete a segment, and it is a bad one. -/
def Frame.badSegmentDue (f : Frame) (rest : List Sym) : Bool :=
  f.hasSegment && 8 ≤ f.arrived.length && f.arrived.length + rest.length == 48 && !rest.isEmpty
    && badSegmentSyms (f.arrived.drop 8 ++ rest)

/-- R149, R150: a bad segment that is handed over is counted; it is forwarded as it arrived. -/
def State.badSegmentArrives (f : Frame) (rest : List Sym) (s : State) : State :=
  let t := if s.handsOver f then
    s.setStats { s.stats with headerErrors := satInc s.stats.headerErrors } else s
  t.passSymbols f rest (rest.map Sym.out)

/-- BAD_SEGMENT (R150). -/
def execBadSegment (rest : List Sym) (s : State) : Host.Outcome State Fault Refusal :=
  .next (if s.held then s
    else match s.fp.frame with
    | none => s
    | some f => if f.badSegmentDue rest then s.badSegmentArrives f rest else s)

/-- R159: a good EMPTY segment, these bytes, completes. -/
def State.emptyArrives (f : Frame) (bytes : List Byte) (s : State) : State :=
  match s.mx.slot with
  | .answering r =>
    if s.handsOver f then (s.setSlot .idle).answerSegment f bytes r s.mc.address
    else s.forwardSegment f bytes
  | _ => s.forwardSegment f bytes

/-- EMPTY_SEGMENT (R159). -/
def execEmptySegment (body : List Byte) (s : State) : Host.Outcome State Fault Refusal :=
  .next (if s.held then s
    else match s.fp.frame with
    | none => s
    | some f => if f.segmentDue (emptyBytes body) then s.emptyArrives f (emptyBytes body) else s)

/-! ### Read-only requests and unknown codes -/

/-- R169: what IDENTIFY gives. -/
def handleIdentify (rq : Request) : State → Option Response × State :=
  answerAtOnce 0x01 rq (readOnlyAnswer rq identifyPayload)

/-- IDENTIFY (R169). -/
def execIdentify (rq : Request) (s : State) : Host.Outcome State Fault Refusal :=
  .next (s.withRequest 0x01 rq (handleIdentify rq))

/-- R170: what READ STATUS gives. -/
def handleReadStatus (rq : Request) : State → Option Response × State :=
  answerAtOnce 0x02 rq (readOnlyAnswer rq statusPayload)

/-- READ STATUS (R170). -/
def execReadStatus (rq : Request) (s : State) : Host.Outcome State Fault Refusal :=
  .next (s.withRequest 0x02 rq (handleReadStatus rq))

/-- R74: what READ OWNERS gives. -/
def handleReadOwners (rq : Request) : State → Option Response × State :=
  answerAtOnce 0x03 rq (readOnlyAnswer rq ownersPayload)

/-- READ OWNERS (R74). -/
def execReadOwners (rq : Request) (s : State) : Host.Outcome State Fault Refusal :=
  .next (s.withRequest 0x03 rq (handleReadOwners rq))

/-- R155: what a request whose code is none of Table 8-5 gives. -/
def handleBadOpcode (code : Byte) (rq : Request) : State → Option Response × State :=
  answerAtOnce code rq fun _ => ⟨stBadOpcode, 0, [], false⟩

/-- BAD_OPCODE (R155): a request whose code is none of Table 8-5. -/
def execBadOpcode (code : Byte) (rq : Request) (s : State) : Host.Outcome State Fault Refusal :=
  .next (if knownCodes.contains code then s else s.withRequest code rq (handleBadOpcode code rq))

/-! ### The view and the tables -/

/-- R164: the execution of OPEN VIEW. -/
def openView (rq : Request) (s : State) : Answer × State :=
  if requestSize rq ≠ 3 then (.plain stBadLength 0, s)
  else match TableId.ofCode (requestByte rq 1) with
  | none => (.plain stRange 0, s)
  | some t =>
    if 1 < (requestByte rq 0).toNat then (.plain stRange 0, s)
    else if t.size ≤ (requestByte rq 2).toNat then (.plain stRange 0, s)
    else
      (.plain stOk 0, { s with mx := { s.mx with
        view := ⟨if requestByte rq 0 = 0 then .active else .staged, t, (requestByte rq 2).toNat⟩ } })

/-- R164: what OPEN VIEW gives. -/
def handleOpenView (rq : Request) : State → Option Response × State :=
  replayable 0x10 rq (openView rq)

/-- OPEN VIEW (R164). -/
def execOpenView (rq : Request) (s : State) : Host.Outcome State Fault Refusal :=
  .next (s.withRequest 0x10 rq (handleOpenView rq))

/-- The view's next row advances. -/
def State.advanceView (n : Nat) (s : State) : State :=
  { s with mx := { s.mx with view := { s.mx.view with next := s.mx.view.next + n } } }

/-- R15, R165: the execution of READ ROWS. -/
def readRows (rq : Request) (s : State) : Answer × State :=
  let v := s.mx.view
  let n := (requestByte rq 0).toNat
  if requestSize rq ≠ 1 then (.plain stBadLength 0, s)
  else if n < 1 ∨ 4 < n then (.plain stRange 0, s)
  else if v.table.size < v.next + n then (.plain stRange 0, s)
  else
    (⟨stOk, 0, ((s.banks.inRole v.role).rows v.table v.next n).flatMap Row.bytes, true⟩, s.advanceView n)

/-- R165: what READ ROWS gives. -/
def handleReadRows (rq : Request) : State → Option Response × State :=
  replayable 0x11 rq (readRows rq)

/-- READ ROWS (R165). -/
def execReadRows (rq : Request) (s : State) : Host.Outcome State Fault Refusal :=
  .next (s.withRequest 0x11 rq (handleReadRows rq))

/-- The rows a WRITE ROWS payload holds. -/
def requestRows (rq : Request) (n : Nat) : List Row :=
  (List.range n).map fun k => Row.ofBytes ((List.range 8).map fun i => requestByte rq (8 * k + i))

/-- R14: rows are stored into the STAGED bank and S is cleared. -/
def State.storeRows (t : TableId) (i : Nat) (rs : List Row) (s : State) : State :=
  { s with banks := { s.banks.setStaged (s.banks.stagedBank.setRows t i rs) with armed := none } }

/-- R14, R166: the execution of WRITE ROWS. -/
def writeRows (rq : Request) (s : State) : Answer × State :=
  let v := s.mx.view
  let n := requestSize rq / 8
  if v.role = .active then (.plain stReadOnly 0, s)
  else if requestSize rq ≠ 8 ∧ requestSize rq ≠ 16 ∧ requestSize rq ≠ 24 ∧ requestSize rq ≠ 32 then
    (.plain stBadLength 0, s)
  else if v.table.size < v.next + n then (.plain stRange 0, s)
  else
    (.plain stOk (disarmedFlag s), (s.storeRows v.table v.next (requestRows rq n)).advanceView n)

/-- R166: what WRITE ROWS gives. -/
def handleWriteRows (rq : Request) : State → Option Response × State :=
  replayable 0x12 rq (writeRows rq)

/-- WRITE ROWS (R166). -/
def execWriteRows (rq : Request) (s : State) : Host.Outcome State Fault Refusal :=
  .next (s.withRequest 0x12 rq (handleWriteRows rq))

/-! ### Long operations and DISARM -/

/-- R17, R19, R167: a long operation starts: S is cleared, the slot moves to WORKING, the answer is ACCEPTED
and is not recorded. -/
def startLong (op : LongOp) (code : Byte) (rq : Request) (s : State) : Answer × State :=
  (⟨stAccepted, disarmedFlag s, [], false⟩,
    State.setSlot (.working rq.tag code) { s with banks := { s.banks with armed := none, longOp := op } })

/-- R17: what CLONE gives. -/
def handleClone (rq : Request) : State → Option Response × State :=
  replayable 0x20 rq (noPayload rq (startLong .cloning 0x20 rq))

/-- CLONE (R17). -/
def execClone (rq : Request) (s : State) : Host.Outcome State Fault Refusal :=
  .next (s.withRequest 0x20 rq (handleClone rq))

/-- R19: the checks and the start of ARM. -/
def armRequest (rq : Request) (s : State) : Answer × State :=
  let g := requestByte rq 0
  if requestSize rq ≠ 1 then (.plain stBadLength 0, s)
  else if g = 0 ∨ g = s.banks.gen then (.plain stBadGen 0, s)
  else startLong (.validating g) 0x21 rq s

/-- R19: what ARM gives. -/
def handleArm (rq : Request) : State → Option Response × State :=
  replayable 0x21 rq (armRequest rq)

/-- ARM (R19). -/
def execArm (rq : Request) (s : State) : Host.Outcome State Fault Refusal :=
  .next (s.withRequest 0x21 rq (handleArm rq))

/-- R16: what DISARM gives. -/
def handleDisarm (rq : Request) : State → Option Response × State :=
  replayable 0x22 rq
    (noPayload rq fun t => (.plain stOk (disarmedFlag t), t.clearArmed))

/-- DISARM (R16). -/
def execDisarm (rq : Request) (s : State) : Host.Outcome State Fault Refusal :=
  .next (s.withRequest 0x22 rq (handleDisarm rq))

/-! ### Force records -/

/-- R63: the execution of FORCE PIN. -/
def forcePin (rq : Request) (s : State) : Answer × State :=
  if requestSize rq ≠ 2 then (.plain stBadLength 0, s)
  else if h : (requestByte rq 0).toNat < 24 then
    match ForceState.ofCode (requestByte rq 1) with
    | none => (.plain stRange 0, s)
    | some st =>
      if s.mc.mode = .standby ∨ s.policy.permit = true then
        (.plain stOk 0, State.redecide { s with
          pins := { s.pins with force := s.pins.force.set (requestByte rq 0).toNat (some st) } })
      else (.plain stRefused 0, s)
  else (.plain stRange 0, s)

/-- R63: what FORCE PIN gives. -/
def handleForcePin (rq : Request) : State → Option Response × State :=
  replayable 0x30 rq (forcePin rq)

/-- FORCE PIN (R63). -/
def execForcePin (rq : Request) (s : State) : Host.Outcome State Fault Refusal :=
  .next (s.withRequest 0x30 rq (handleForcePin rq))

/-- R64, R65: every force record is removed. -/
def State.releaseAll (s : State) : State :=
  State.redecide { s with pins := { s.pins with force := Vector.replicate 24 none } }

/-- R64: the execution of RELEASE PIN. -/
def releasePin (rq : Request) (s : State) : Answer × State :=
  if requestSize rq ≠ 1 then (.plain stBadLength 0, s)
  else if requestByte rq 0 = 255 then (.plain stOk 0, s.releaseAll)
  else if h : (requestByte rq 0).toNat < 24 then
    (.plain stOk 0, State.redecide { s with
      pins := { s.pins with force := s.pins.force.set (requestByte rq 0).toNat none } })
  else (.plain stRange 0, s)

/-- R64: what RELEASE PIN gives. -/
def handleReleasePin (rq : Request) : State → Option Response × State :=
  replayable 0x31 rq (releasePin rq)

/-- RELEASE PIN (R64). -/
def execReleasePin (rq : Request) (s : State) : Host.Outcome State Fault Refusal :=
  .next (s.withRequest 0x31 rq (handleReleasePin rq))

/-! ### Mode requests -/

/-- R141: the execution of ENTER FALLBACK. -/
def enterFallbackRequest (s : State) : Answer × State :=
  if s.mc.mode = .running then (.plain stOk 0, s.enterFallback .request)
  else if s.mc.mode = .fallback then (.plain stOk 0, { s with mc := { s.mc with cause := .request } })
  else (.plain stWrongMode 0, s)

/-- R141: what ENTER FALLBACK gives. -/
def handleEnterFallback (rq : Request) : State → Option Response × State :=
  replayable 0x40 rq (noPayload rq enterFallbackRequest)

/-- ENTER FALLBACK (R141). -/
def execEnterFallback (rq : Request) (s : State) : Host.Outcome State Fault Refusal :=
  .next (s.withRequest 0x40 rq (handleEnterFallback rq))

/-- R142: the execution of RESUME. -/
def resumeRequest (s : State) : Answer × State :=
  if s.mc.mode = .fallback then (.plain stOk 0, s.leaveFallback) else (.plain stWrongMode 0, s)

/-- R142: what RESUME gives. -/
def handleResume (rq : Request) : State → Option Response × State :=
  replayable 0x41 rq (noPayload rq resumeRequest)

/-- RESUME (R142). -/
def execResume (rq : Request) (s : State) : Host.Outcome State Fault Refusal :=
  .next (s.withRequest 0x41 rq (handleResume rq))

/-- R144: the execution of RELEASE ADDRESS. -/
def releaseAddress (s : State) : Answer × State :=
  if s.mc.mode = .standby then
    (.plain stOk (disarmedFlag s), State.releaseAll
      { s.clearArmed with mc := { s.mc with address := 0, mode := .unaddressed } })
  else (.plain stWrongMode 0, s)

/-- R144: what RELEASE ADDRESS gives. -/
def handleReleaseAddress (rq : Request) : State → Option Response × State :=
  replayable 0x42 rq (noPayload rq releaseAddress)

/-- RELEASE ADDRESS (R144). -/
def execReleaseAddress (rq : Request) (s : State) : Host.Outcome State Fault Refusal :=
  .next (s.withRequest 0x42 rq (handleReleaseAddress rq))

/-- R145: RESTART sets restart pending: the carrying frame, in passage, is the last on its way to OUT
(entry 16). -/
def restartRequest (s : State) : Answer × State :=
  (.plain stOk 0, { s with mc := { s.mc with
    restart := some (s.mc.restart.getD (s.link.line.countP OutSym.isEnding + 1)) } })

/-- R145: what RESTART gives. -/
def handleRestart (rq : Request) : State → Option Response × State :=
  replayable 0x43 rq (noPayload rq restartRequest)

/-- RESTART (R145). -/
def execRestart (rq : Request) (s : State) : Host.Outcome State Fault Refusal :=
  .next (s.withRequest 0x43 rq (handleRestart rq))

/-! ### Statistics and the reset cause record -/

/-- R171: what CLEAR STATS gives. -/
def handleClearStats (rq : Request) : State → Option Response × State :=
  replayable 0x50 rq
    (noPayload rq fun t => (.plain stOk 0, t.setStats Stats.zero))

/-- CLEAR STATS (R171): the sixteen counters go to 0. -/
def execClearStats (rq : Request) (s : State) : Host.Outcome State Fault Refusal :=
  .next (s.withRequest 0x50 rq (handleClearStats rq))

/-- R147: what CLEAR CAUSE gives. -/
def handleClearCause (rq : Request) : State → Option Response × State :=
  replayable 0x51 rq
    (noPayload rq fun t => (.plain stOk 0, { t with mc := { t.mc with resetCause := ⟨false, false, false⟩ } }))

/-- CLEAR CAUSE (R147): the reset cause record is emptied. -/
def execClearCause (rq : Request) (s : State) : Host.Outcome State Fault Refusal :=
  .next (s.withRequest 0x51 rq (handleClearCause rq))

/-! ### A segment whose last symbol arrives by itself -/

/-- Table 10-12: what a request with this code gives. -/
def handleRequest (code : Byte) (rq : Request) : State → Option Response × State :=
  if code = 0x01 then handleIdentify rq
  else if code = 0x02 then handleReadStatus rq
  else if code = 0x03 then handleReadOwners rq
  else if code = 0x10 then handleOpenView rq
  else if code = 0x11 then handleReadRows rq
  else if code = 0x12 then handleWriteRows rq
  else if code = 0x20 then handleClone rq
  else if code = 0x21 then handleArm rq
  else if code = 0x22 then handleDisarm rq
  else if code = 0x30 then handleForcePin rq
  else if code = 0x31 then handleReleasePin rq
  else if code = 0x40 then handleEnterFallback rq
  else if code = 0x41 then handleResume rq
  else if code = 0x42 then handleReleaseAddress rq
  else if code = 0x43 then handleRestart rq
  else if code = 0x50 then handleClearStats rq
  else if code = 0x51 then handleClearCause rq
  else handleBadOpcode code rq

/-- R149: the next position of the frame is the last of its segment. -/
def Frame.lastOfSegment (f : Frame) : Bool := f.hasSegment && f.arrived.length == 47

/-- R149, R150, R153, R159: these symbols complete the segment, which has the effect of its kind whichever step
brings its last symbol (entry 4). A RESPONSE is forwarded. -/
def State.segmentArrives (f : Frame) (rest : List Sym) (s : State) : State :=
  let syms := f.arrived.drop 8 ++ rest
  let bytes := syms.map Sym.value
  if badSegmentSyms syms then s.badSegmentArrives f rest
  else if bytes.getD 0 0 = 0 then s.emptyArrives f bytes
  else if bytes.getD 0 0 = 1 then
    s.requestArrives f bytes (Request.ofBytes bytes)
      (handleRequest (bytes.getD 3 0) (Request.ofBytes bytes))
  else s.forwardSegment f bytes

end Sys2Proof.Machine
end

