-- ==== Sys2Proof/Machine/Link.lean ====
section
/-! DEFINITION. The symbols of the IN link and the OUT port (Chapter 9: R177 to R182, R188). -/

namespace Sys2Proof.Machine

/-- R177: the IN link state and the clean-idle count at a valid symbol. -/
def LinkInterface.valid (l : LinkInterface) (isIdle : Bool) : LinkInterface :=
  match l.inState with
  | .down => { l with inState := .settling, cleanIdles := if isIdle then 1 else 0, errorRun := 0 }
  | .settling =>
    { l with cleanIdles := if isIdle then min Config.settleIdles (l.cleanIdles + 1) else l.cleanIdles, errorRun := 0 }
  | .up => { l with errorRun := 0 }

/-- The link part of a valid symbol. -/
def State.validLink (isIdle : Bool) (s : State) : State := { s with link := s.link.valid isIdle }

/-- R181: the received break mark. -/
def State.setMark (m : Option Byte) (s : State) : State := { s with link := { s.link with breakMark := m } }

/-- R182: the mark of an over-long frame (entry 13). -/
def State.setDiscarding (b : Bool) (s : State) : State := { s with link := { s.link with discarding := b } }

/-- One data position of the frame in passage arrives by itself. The one that completes the header, the
next-address field or the segment has that effect, whichever step brings it (entry 4). -/
def State.symbolInFrame (f : Frame) (x : Sym) (s : State) : State :=
  if f.headerDue [x] then s.headerArrives f [x]
  else if f.fieldDue [x] then s.fieldArrives f [x]
  else if f.lastOfSegment then s.segmentArrives f [x]
  else s.frameSymbol f x

/-- R181: a position outside a frame, with the link UP, that carries no idle. -/
def State.relay (s : State) : State := s.push [relayMark s.link.breakMark]

/-- R182: a frame dropped while the IN link is not UP is counted as aborted. -/
def State.dropFrame (s : State) : State := s.setStats { s.stats with aborted := satInc s.stats.aborted }

/-- R182: a start delimiter arrives: the frame is accepted, or dropped; a frame in passage is aborted; in the
rest of an over-long frame it is an idle position, relayed with the break mark as it stood before: the model's choice
(entry 13). R181: the break mark is cleared. -/
def State.startArrives (s : State) : State :=
  if s.link.inState = .up then
    let t := s.validLink false
    if s.link.discarding then t.relay.setMark none
    else match s.fp.frame with
    | some f => (t.abortFrame f false).setMark none
    | none => ((t.setFrame (some (Frame.opened s.banks.active))).push [.startDelimiter]).setMark none
  else ((s.validLink false).dropFrame).setMark none

/-- R177, R178, R181: an idle arrives. -/
def State.idleArrives (mark : Option Byte) (out : OutSym) (s : State) : State :=
  let t := s.validLink true
  if s.link.inState = .up then
    match s.fp.frame with
    | some f => t.symbolInFrame f .idle
    | none => (t.push [out]).setMark mark
  else t.setMark mark

/-- R177, R181, R182: a data byte arrives. -/
def State.dataArrives (b : Byte) (s : State) : State :=
  let t := s.validLink false
  if s.link.inState = .up then
    match s.fp.frame with
    | some f => t.symbolInFrame f (.byte b)
    | none => t.relay
  else t

/-- R181, R186: an end delimiter arrives. -/
def State.endArrives (s : State) : State :=
  let t := s.validLink false
  if s.link.inState = .up then
    match s.fp.frame with
    | some f => t.endFrame f
    | none => t.relay.setDiscarding false
  else t

/-- R181, R188: an abort delimiter arrives. -/
def State.abortArrives (s : State) : State :=
  let t := s.validLink false
  if s.link.inState = .up then
    match s.fp.frame with
    | some f => t.abortFrame f true
    | none => t.relay.setDiscarding false
  else t

/-- A valid symbol arrives at a node that is not held in reset. -/
def State.symbolArrives (sym : Symbol) (s : State) : State :=
  match sym with
  | .data b => s.dataArrives b
  | .startDelimiter => s.startArrives
  | .endDelimiter => s.endArrives
  | .abortDelimiter => s.abortArrives
  | .plainIdle => s.idleArrives none .plainIdle
  | .breakIdle a => s.idleArrives (some a) (.breakIdle a)

/-- VALID_SYMBOL (R177, R181, R182). -/
def execValidSymbol (sym : Symbol) (s : State) : Host.Outcome State Fault Refusal :=
  .next (if s.held then s else s.symbolArrives sym)

/-- START_DELIMITER (R182). -/
def execStartDelimiter (s : State) : Host.Outcome State Fault Refusal :=
  .next (if s.held then s else s.startArrives)

/-- R177, R178, R181: a symbol error arrives at a node that is not held in reset. -/
def State.errorArrives (s : State) : State :=
  let run := s.link.errorRun + 1
  match s.link.inState with
  | .down => s
  | .settling => { s with link := { s.link with cleanIdles := 0, errorRun := run } }
  | .up =>
    match s.fp.frame with
    | some f => s.symbolInFrame f .error
    | none => State.relay { s with link := { s.link with errorRun := run } }

/-- SYMBOL_ERROR (R177, R178, R181). -/
def execSymbolError (s : State) : Host.Outcome State Fault Refusal :=
  .next (if s.held then s else s.errorArrives)

/-- R177: the clean-idle count has reached 1024 in SETTLING. -/
def State.linkUpDue (s : State) : Bool :=
  !s.held && s.link.inState == .settling && s.link.cleanIdles == Config.settleIdles

/-- R177, R180: the IN link becomes UP; OUT moves from BREAK to IDLE and sends plain idles until the first
symbol received after the change is due. -/
def LinkInterface.rise (l : LinkInterface) : LinkInterface :=
  if l.out = .brk then
    { l with inState := .up, out := .idle, line := List.replicate Config.forwardDelay .plainIdle }
  else { l with inState := .up }

/-- LINK_UP (R177). -/
def execLinkUp (s : State) : Host.Outcome State Fault Refusal :=
  .next (if s.linkUpDue then { s with link := s.link.rise } else s)

/-- R180: OUT when the IN link goes DOWN: BREAK at once when no accepted frame has its end or abort delimiter
still to leave. -/
def LinkInterface.breakIfEmpty (l : LinkInterface) : LinkInterface :=
  if l.line.any OutSym.isEnding then l else { l with out := .brk, line := [] }

/-- R188: at a link-down event the frame in passage is aborted with the abort delimiter in the position of
the first symbol of the run that led to DOWN: the symbols of that run do not leave. -/
def State.abortAtLinkDown (s : State) : State :=
  match s.fp.frame with
  | none => s
  | some f =>
    State.abortFrame f false
      { s with link := { s.link with line := replaceTail (min s.link.errorRun f.arrived.length) [] s.link.line } }

/-- R139, R140: the Mode Controller at a link-down event. In FALLBACK the cause is kept: R67 names a link loss among
the changes of cause in FALLBACK, and the model follows R139 and R140 (entry 22). -/
def State.linkLost (s : State) : State := if s.mc.mode = .running then s.enterFallback .link else s

/-- R177: the link state at a link-down event. -/
def LinkInterface.fall (l : LinkInterface) : LinkInterface :=
  LinkInterface.breakIfEmpty { l with inState := .down, cleanIdles := 0, errorRun := 0, discarding := false }

/-- R179: a link-down event. -/
def State.linkDown (s : State) : State :=
  let t := s.abortAtLinkDown
  State.linkLost { t with
    link := t.link.fall
    stats := { t.stats with linkDown := satInc t.stats.linkDown } }

/-- LINK_DOWN_EVENT (R177, R179): 25 byte times have passed without a valid symbol. -/
def execLinkDownEvent (s : State) : Host.Outcome State Fault Refusal :=
  .next (if s.held = false ∧ s.link.inState ≠ .down then s.linkDown else s)

/-- The first delimiter of a line and what is behind it. -/
def firstDelimiter : List OutSym → Option (OutSym × List OutSym)
  | [] => none
  | x :: xs => if x = .startDelimiter ∨ x.isEnding = true then some (x, xs) else firstDelimiter xs

/-- R180: the OUT port when its next delimiter leaves. When an end or abort delimiter leaves and the IN link
is not UP, OUT becomes BREAK once no accepted frame is left (entry 15). -/
def LinkInterface.leave (l : LinkInterface) (x : OutSym) (rest : List OutSym) : LinkInterface :=
  if x = .startDelimiter then { l with out := .forwarding, line := rest }
  else if l.inState ≠ .up ∧ rest.any OutSym.isEnding = false then { l with out := .brk, line := [] }
  else { l with out := .idle, line := rest }

/-- R145: one frame end has left OUT (entry 16). -/
def ModeController.frameLeft (mc : ModeController) (x : OutSym) : ModeController :=
  if x.isEnding then { mc with restart := mc.restart.map (· - 1) } else mc

/-- R180: the symbol OUT sends of its own at a byte time: in BREAK a break idle with the node's address as it
stands. In SILENT it sends nothing; in IDLE and FORWARDING it sends the line. -/
def State.ownSymbol (s : State) : Option OutSym :=
  if s.link.out = .brk then some (.breakIdle s.mc.address) else none

/-- DELIMITER_LEAVES_OUT (R180): the next delimiter on its way to OUT leaves, after the symbols before it. -/
def execDelimiterLeavesOut (s : State) : Host.Outcome State Fault Refusal :=
  .next (if s.held then s
    else match firstDelimiter s.link.line with
    | none => s
    | some (x, rest) => { s with link := s.link.leave x rest, mc := s.mc.frameLeft x })

end Sys2Proof.Machine
end

