-- ==== Sys2Proof/Machine/Frames.lean ====
section
/-! DEFINITION. A frame in passage: image, trailer, end and abort (R30 to R49, R185 to R188). -/

namespace Sys2Proof.Machine

/-! ### The image -/

/-- The slot row `row` of the bank bound to the frame. -/
def State.boundRow (f : Frame) (row : Fin 32) (s : State) : Row := (s.banks.bank f.bound).slot[row]

/-- The image length of a processed frame. -/
def Frame.imageLength (f : Frame) : Option Nat :=
  match f.header with
  | .good .process L => if f.processed then some L else none
  | _ => none

/-- R39: a captured value is placed in the frame-pending tier for its channel instance. -/
def FramePending.place (p : FramePending) (c : Chan) (inst : Byte) (v : List Byte) : FramePending :=
  let n : Unit4 := Fin.ofNat 4 inst.toNat
  match c with
  | .dout => { p with dout := some (le24 (v.getD 0 0) (v.getD 1 0) (v.getD 2 0)) }
  | .pgset =>
    let sp : Setpoint := ⟨le16 (v.getD 0 0) (v.getD 1 0), le16 (v.getD 2 0) (v.getD 3 0)⟩
    { p with pgset := p.pgset.set n (some sp) }
  | .ccctl => { p with ccctl := p.ccctl.set n (some (v.getD 0 0)) }
  | .evack => { p with evack := some (le16 (v.getD 0 0) (v.getD 1 0)) }
  | .snap | .cccnt | .ccstamp | .evblk | .nstat => p

/-- R39: the entry is an enabled OUT entry within the image, and the last byte it covers has passed. -/
def captureDue (f : Frame) (r : Row) (L : Nat) : Bool :=
  r.outWithin L && 48 + r.offset + r.width ≤ f.arrived.length

/-- R39: the arriving bytes an entry covers. -/
def capturedBytes (f : Frame) (r : Row) : List Byte :=
  ((f.arrived.drop (48 + r.offset)).take r.width).map Sym.value

/-- R39: the capture of a slot row. -/
def State.capture (f : Frame) (r : Row) (s : State) : State :=
  match r.chan with
  | none => s
  | some c => { s with store := { s.store with
      framePending := s.store.framePending.place c r.b1 (capturedBytes f r) } }

/-- OUT_CAPTURE (R39): the last covered byte of an enabled OUT entry has passed. -/
def execOutCapture (row : Fin 32) (s : State) : Host.Outcome State Fault Refusal :=
  .next (if s.held then s
    else match s.fp.frame with
    | none => s
    | some f =>
      match f.imageLength with
      | none => s
      | some L => if captureDue f (s.boundRow f row) L then s.capture f (s.boundRow f row) else s)

/-- R30 to R32: the value of an IN channel instance as it stands. -/
def State.channelValue (c : Chan) (inst : Byte) (count : Nat) (s : State) : List Byte :=
  let n : Unit4 := Fin.ofNat 4 inst.toNat
  match c with
  | .snap => bytes24 s.sampler.snapshot
  | .cccnt => bytes32 s.cc[n].count
  | .ccstamp => bytes32 s.cc[n].stamp
  | .evblk => eventBlock count s.queue
  | .nstat => [modeCauseByte s.mc, nstatFlags s]
  | .dout | .pgset | .ccctl | .evack => []

/-- R40: no enabled entry of the same IN channel instance within the image lies lower. -/
def lowestOfInstance (rows : List Row) (r : Row) (L : Nat) : Bool :=
  rows.all fun e => !(e.inWithin L && e.b0 == r.b0 && e.b1 == r.b1) || r.offset ≤ e.offset

/-- R40: the next data byte of the frame is the first byte of the instance's lowest-offset entry. -/
def takeDue (f : Frame) (rows : List Row) (r : Row) (L : Nat) : Bool :=
  r.inWithin L && lowestOfInstance rows r L && f.arrived.length == 48 + r.offset
    && !(f.taken.any fun t => some t.chan == r.chan && t.inst == r.b1)

/-- R40: the value is taken whole for the frame. -/
def State.takeValue (f : Frame) (r : Row) (s : State) : State :=
  match r.chan with
  | none => s
  | some c => s.setFrame (some { f with taken := f.taken ++ [⟨c, r.b1, s.channelValue c r.b1 r.count⟩] })

/-- IN_VALUE_TAKEN (R40): the first byte of the instance's lowest-offset entry is about to pass. -/
def execInValueTaken (row : Fin 32) (s : State) : Host.Outcome State Fault Refusal :=
  .next (if s.held then s
    else match s.fp.frame with
    | none => s
    | some f =>
      match f.imageLength with
      | none => s
      | some L =>
        if takeDue f (s.banks.bank f.bound).slot.toList (s.boundRow f row) L then s.takeValue f (s.boundRow f row)
        else s)

/-! ### Trailer, end and abort -/

/-- R187: the frame has a good header and its trailer position has passed. -/
def Frame.excessDue (f : Frame) : Bool :=
  match f.header with
  | .good t L => expectedLength t L ≤ f.arrived.length
  | _ => false

/-- EXCESS_DATA_BYTE (R187): a data byte arrives after the trailer position of a frame with a good header. -/
def execExcessDataByte (b : Byte) (s : State) : Host.Outcome State Fault Refusal :=
  .next (if s.held then s
    else match s.fp.frame with
    | none => s
    | some f => if f.excessDue then (s.validLink false).frameSymbol f (.byte b) else s)

/-- FRAME_END (R186): the end delimiter of the frame in passage arrives. -/
def execFrameEnd (s : State) : Host.Outcome State Fault Refusal :=
  .next (if s.held then s
    else match s.fp.frame with
    | none => s
    | some f => (s.validLink false).endFrame f)

/-- R188: the abort of the frame in passage for each of the four events. A 565th data byte is one only when
564 have arrived. At a link-down it is the abort alone: LINK_DOWN_EVENT is the whole event, this abort with it, which
is the model's choice (entry 24). -/
def State.abortFor (cause : AbortCause) (f : Frame) (s : State) : State :=
  match cause with
  | .linkDown => s.abortAtLinkDown
  | .abortDelimiter => (s.validLink false).abortFrame f true
  | .startDelimiter => ((s.validLink false).abortFrame f false).setMark none
  | .tooLong => if f.arrived.length = Config.maxFrameBytes then (s.validLink false).tooLong f else s

/-- FRAME_ABORT (R188). -/
def execFrameAbort (cause : AbortCause) (s : State) : Host.Outcome State Fault Refusal :=
  .next (if s.held then s
    else match s.fp.frame with
    | none => s
    | some f => s.abortFor cause f)

end Sys2Proof.Machine
end

