-- ==== Sys2Proof/Machine/Resets.lean ====
section
/-! DEFINITION. The three kinds of reset, the events that start their hold times, and the end of reset
(R145 to R147, R90, R190). -/

namespace Sys2Proof.Machine

/-- POWER_RESET (R146, R147): the supply falls below its threshold or the part is powered up. -/
def execPowerReset (s : State) : Host.Outcome State Fault Refusal :=
  .next (s.beginReset ⟨true, false, false⟩ { s.hold with power := .waiting })

/-- PIN_RESET (R146, R147): nRST is driven low. -/
def execPinReset (s : State) : Host.Outcome State Fault Refusal :=
  .next (s.beginReset { s.mc.resetCause with pin := true } { s.hold with pin := .waiting })

/-- R145: restart pending is set and the frame carrying the response has left OUT. -/
def State.softResetDue (s : State) : Bool := s.mc.restart == some 0 && !s.held

/-- SOFT_RESET (R145, R147): begins when the frame carrying the RESTART response has left OUT; its hold time
runs from that instant. -/
def execSoftReset (s : State) : Host.Outcome State Fault Refusal :=
  .next (if s.softResetDue then
    s.beginReset { s.mc.resetCause with soft := true } { s.hold with soft := .timing }
  else s)

/-- R146: every reset in progress is in its hold time, so that the last of them can end. -/
def State.resetEndDue (s : State) : Bool :=
  s.held && s.hold.power != .waiting && s.hold.pin != .waiting

/-- R77, R79, R90, R190: the node leaves reset and takes its first sample at tick 0. -/
def State.leaveReset (field : List PadField) (s : State) : State :=
  { s with
    hold := ⟨.off, .off, .off⟩
    link := { s.link with out := .brk }
    sampler := InputSampler.reset (s.rawLevels field)
    freeCount := s.freeCount + 1 }

/-- END_OF_RESET (R146): the last hold time ends. -/
def execEndOfReset (field : List PadField) (s : State) : Host.Outcome State Fault Refusal :=
  .next (if s.resetEndDue then s.leaveReset field else s)

/-- SUPPLY_GOOD (R146): the hold time of a POWER reset starts. -/
def execSupplyGood (s : State) : Host.Outcome State Fault Refusal :=
  .next (if s.hold.power = .waiting then { s with hold := { s.hold with power := .timing } } else s)

/-- NRST_RISES (R146): the hold time of a PIN reset starts. -/
def execNrstRises (s : State) : Host.Outcome State Fault Refusal :=
  .next (if s.hold.pin = .waiting then { s with hold := { s.hold with pin := .timing } } else s)

end Sys2Proof.Machine
end

