-- ==== Sys2Proof/Machine/Timed.lean ====
section
/-! DEFINITION. What happens in time: ticks, samples, the frame watch timer, the pulse waveform, and the ends of
the long operations. -/

namespace Sys2Proof.Machine

/-! ### Ticks and samples -/

/-- R112, R114: an increment at a pulse generator; the phase stands at the period while its period start is due
(entry 10). R121: an increment at the instant of the switch at which the unit restarted leaves its phase at 0. -/
def PulseGen.tick (atSwitch : Bool) (u : PulseGen) : PulseGen :=
  match u.state with
  | .running p =>
    { u with
      state := if atSwitch && u.restarted then .running p else .running (min (p + 1) u.period.toNat)
      restarted := false }
  | _ => u

/-- R79: an increment at the sampler, judged against the divisor as it stands; at the tick of a sample the phase
returns to 0 and the sample is due (entry 10). -/
def InputSampler.advance (divisor : Nat) (u : InputSampler) : InputSampler :=
  if divisor ≤ u.phase + 1 then { u with tick := u.tick + 1, phase := 0, due := true }
  else { u with tick := u.tick + 1, phase := u.phase + 1 }

/-- TICK_INCREMENT (R77, R79, R112, R121, R137): 1 µs passes; the tick counter is held at 0 in reset. `atSwitch`: the
increment arrives at the instant of the switch taken just before it (entry 23). -/
def execTickIncrement (s : State) (atSwitch : Bool := false) : Host.Outcome State Fault Refusal :=
  .next (if s.held then s
    else { s with
      sampler := s.sampler.advance s.divisor
      mc := { s.mc with timer := s.mc.timer.map (· - 1) }
      pg := Vector.ofFn fun n => s.pg[n].tick atSwitch })

/-- R79: the tick that takes a sample has come. -/
def State.sampleDue (s : State) : Bool := !s.held && s.sampler.due

/-- SAMPLE (R79 to R88): the pads are read, with what the field circuit does at each. -/
def execSample (field : List PadField) (s : State) : Host.Outcome State Fault Refusal :=
  .next (if s.sampleDue then
    { s.takeSample (s.rawLevels field) with freeCount := s.freeCount + 1 } else s)

/-- R137, R138: the running timer's remaining time has reached 0. -/
def State.expiryDue (s : State) : Bool := !s.held && s.mc.mode == .running && s.mc.timer == some 0

/-- FRAME_WATCH_EXPIRY (R138). -/
def execFrameWatchExpiry (s : State) : Host.Outcome State Fault Refusal :=
  .next (if s.expiryDue then s.enterFallback .timeout else s)

/-! ### The pulse waveform -/

/-- R114: a running unit's phase has reached its period. -/
def PulseGen.periodDue (u : PulseGen) : Bool :=
  match u.state with
  | .running p => u.period.toNat ≤ p
  | _ => false

/-- PERIOD_START (R114): the next period and width are adopted, phase position 0. -/
def execPeriodStart (n : Unit4) (s : State) : Host.Outcome State Fault Refusal :=
  .next (if s.held = false ∧ s.pg[n].periodDue = true then { s with pg := s.pg.set n s.pg[n].start } else s)

/-- R112: a running unit's phase has reached its width within its period. -/
def PulseGen.widthDue (u : PulseGen) : Bool :=
  match u.state with
  | .running p => u.width.toNat ≤ p && p < u.period.toNat
  | _ => false

/-- WIDTH_REACHED (R112): the output goes to the inactive level. -/
def execWidthReached (n : Unit4) (s : State) : Host.Outcome State Fault Refusal :=
  .next (if s.held = false ∧ s.pg[n].widthDue = true then
    { s with pg := s.pg.set n { s.pg[n] with outActive := false } } else s)

/-! ### The ends of the long operations -/

/-- R160: the result of a long operation becomes the last-answered record and the pending result. -/
def State.finishLong (tag code : Byte) (status : Byte) (payload : List Byte) (s : State) : State :=
  let r : Response := ⟨tag, code, status, 0, payload⟩
  { s with mx := { s.mx with slot := .answering r, last := some r } }

/-- R18: the copy is complete. -/
def State.cloneDone (s : State) : State :=
  { s with banks := { s.banks.setStaged s.banks.activeBank with longOp := .idle } }

/-- CLONE_COMPLETE (R18, R160). -/
def execCloneComplete (s : State) : Host.Outcome State Fault Refusal :=
  .next (if s.held then s
    else match s.banks.longOp, s.mx.slot with
    | .cloning, .working tag code => s.cloneDone.finishLong tag code stOk []
    | _, _ => s)

/-- R20: the validation of the STAGED bank has finished: S on success. -/
def State.armDone (armed : Option Byte) (s : State) : State :=
  { s with banks := { s.banks with armed := armed, longOp := .idle } }

/-- VALIDATION_COMPLETE (R20, R160, R168). -/
def execValidationComplete (s : State) : Host.Outcome State Fault Refusal :=
  .next (if s.held then s
    else match s.banks.longOp, s.mx.slot with
    | .validating g, .working tag code =>
      match validate s.banks.stagedBank with
      | none => (s.armDone (some g)).finishLong tag code stOk [g]
      | some i => (s.armDone none).finishLong tag code stInvalid
          [i.table.code, BitVec.ofNat 8 i.row, i.reason.code]
    | _, _ => s)

end Sys2Proof.Machine
end

