-- ==== Sys2Proof/Machine/Dispatch.lean ====
section
/-! DEFINITION. One arm for each command of the table. -/

namespace Sys2Proof.Machine

def exec (i : Instr) (s : State) : Host.Outcome State Fault Refusal :=
  match i with
  | .powerReset => Sys2Proof.Machine.execPowerReset s
  | .pinReset => Sys2Proof.Machine.execPinReset s
  | .softReset => Sys2Proof.Machine.execSoftReset s
  | .endOfReset field => Sys2Proof.Machine.execEndOfReset field s
  | .validSymbol sym => Sys2Proof.Machine.execValidSymbol sym s
  | .symbolError => Sys2Proof.Machine.execSymbolError s
  | .linkUp => Sys2Proof.Machine.execLinkUp s
  | .linkDownEvent => Sys2Proof.Machine.execLinkDownEvent s
  | .startDelimiter => Sys2Proof.Machine.execStartDelimiter s
  | .frameHeader rest => Sys2Proof.Machine.execFrameHeader rest s
  | .addressField rest => Sys2Proof.Machine.execAddressField rest s
  | .badSegment rest => Sys2Proof.Machine.execBadSegment rest s
  | .emptySegment body => Sys2Proof.Machine.execEmptySegment body s
  | .identify rq => Sys2Proof.Machine.execIdentify rq s
  | .readStatus rq => Sys2Proof.Machine.execReadStatus rq s
  | .readOwners rq => Sys2Proof.Machine.execReadOwners rq s
  | .badOpcode code rq => Sys2Proof.Machine.execBadOpcode code rq s
  | .openView rq => Sys2Proof.Machine.execOpenView rq s
  | .readRows rq => Sys2Proof.Machine.execReadRows rq s
  | .writeRows rq => Sys2Proof.Machine.execWriteRows rq s
  | .clone rq => Sys2Proof.Machine.execClone rq s
  | .arm rq => Sys2Proof.Machine.execArm rq s
  | .disarm rq => Sys2Proof.Machine.execDisarm rq s
  | .forcePin rq => Sys2Proof.Machine.execForcePin rq s
  | .releasePin rq => Sys2Proof.Machine.execReleasePin rq s
  | .enterFallback rq => Sys2Proof.Machine.execEnterFallback rq s
  | .resume rq => Sys2Proof.Machine.execResume rq s
  | .releaseAddress rq => Sys2Proof.Machine.execReleaseAddress rq s
  | .restart rq => Sys2Proof.Machine.execRestart rq s
  | .clearStats rq => Sys2Proof.Machine.execClearStats rq s
  | .clearCause rq => Sys2Proof.Machine.execClearCause rq s
  | .outCapture row => Sys2Proof.Machine.execOutCapture row s
  | .inValueTaken row => Sys2Proof.Machine.execInValueTaken row s
  | .excessDataByte b => Sys2Proof.Machine.execExcessDataByte b s
  | .frameEnd => Sys2Proof.Machine.execFrameEnd s
  | .frameAbort cause => Sys2Proof.Machine.execFrameAbort cause s
  | .delimiterLeavesOut => Sys2Proof.Machine.execDelimiterLeavesOut s
  | .sample field => Sys2Proof.Machine.execSample field s
  | .frameWatchExpiry => Sys2Proof.Machine.execFrameWatchExpiry s
  | .periodStart n => Sys2Proof.Machine.execPeriodStart n s
  | .widthReached n => Sys2Proof.Machine.execWidthReached n s
  | .cloneComplete => Sys2Proof.Machine.execCloneComplete s
  | .validationComplete => Sys2Proof.Machine.execValidationComplete s
  | .tickIncrement atSwitch => Sys2Proof.Machine.execTickIncrement s atSwitch
  | .supplyGood => Sys2Proof.Machine.execSupplyGood s
  | .nrstRises => Sys2Proof.Machine.execNrstRises s

end Sys2Proof.Machine
end

