-- ==== Sys2Proof/Safety.lean ====
section
/-! DEFINITION. What the statements about the N24 are made of: when a request meets the node, what an entry to
FALLBACK is, what fails in a bank, and the properties that every step keeps. -/

namespace Sys2Proof.Machine

/-! ### A request at the node -/

/-- The node is not held in reset and `f` is the frame in passage. -/
def State.passing (f : Frame) (s : State) : Prop := s.held = false ∧ s.fp.frame = some f

/-- R149, R153: a good REQUEST segment with this code completes in the frame `f`, is handed over and is to this
node. -/
def State.meets (f : Frame) (code : Byte) (rq : Request) (s : State) : Prop :=
  s.passing f ∧ f.segmentDue (requestBytes code rq) = true ∧ s.handsOver f = true ∧ rq.address = s.mc.address

/-- R156: a request meets an IDLE slot and is not the one the last-answered record answers. -/
def State.meetsIdle (f : Frame) (code : Byte) (rq : Request) (s : State) : Prop :=
  s.meets f code rq ∧ s.mx.slot = .idle ∧ ∀ r, s.mx.last = some r → ¬ (r.tag = rq.tag ∧ r.code = code)

/-- R156, case 2 and 3: the node whose state is `u` after execution records the response and answers with it in
the request's segment; `address` is the node's address when the request was consumed. -/
def State.recordAndAnswer (f : Frame) (code : Byte) (rq : Request) (r : Response) (address : Byte) (u : State) :
    State :=
  (u.setLast r).answerSegment f (requestBytes code rq) r address

/-- The status and flags of a response to this request, with no payload (R151, R172). -/
def plainResponse (rq : Request) (code status flags : Byte) : Response := ⟨rq.tag, code, status, flags, []⟩

/-- Table 8-5: the code and the fields of a replayable or long request. -/
def replayableOrLong : Instr → Option (Byte × Request)
  | .openView rq => some (0x10, rq)
  | .readRows rq => some (0x11, rq)
  | .writeRows rq => some (0x12, rq)
  | .clone rq => some (0x20, rq)
  | .arm rq => some (0x21, rq)
  | .disarm rq => some (0x22, rq)
  | .forcePin rq => some (0x30, rq)
  | .releasePin rq => some (0x31, rq)
  | .enterFallback rq => some (0x40, rq)
  | .resume rq => some (0x41, rq)
  | .releaseAddress rq => some (0x42, rq)
  | .restart rq => some (0x43, rq)
  | .clearStats rq => some (0x50, rq)
  | .clearCause rq => some (0x51, rq)
  | _ => none

/-- Table 8-5 and R155: the code and the fields of any request. -/
def anyRequest : Instr → Option (Byte × Request)
  | .identify rq => some (0x01, rq)
  | .readStatus rq => some (0x02, rq)
  | .readOwners rq => some (0x03, rq)
  | .badOpcode code rq => if knownCodes.contains code then none else some (code, rq)
  | c => replayableOrLong c

/-! ### Pins -/

/-- R58, R70, R72: the owners and settle counts after the pins were decided anew in the state `t`, coming from the
owners and settle counts of `s`. -/
def DecidedAnew (s t : State) : Prop :=
  ∀ n : Pin, t.pins.owner[n] = t.deciding n ∧
    t.sampler.settle[n] =
      if t.pins.owner[n] ≠ s.pins.owner[n] then (t.pinRow n).settle else s.sampler.settle[n]

/-- R140, R67, R68: `t` is `s` after an entry to FALLBACK with this cause. -/
def EntersFallback (c : Cause) (s t : State) : Prop :=
  t.mc = { s.mc with mode := .fallback, cause := c, timer := none } ∧
  t.stats.fallbackEntries = satInc s.stats.fallbackEntries ∧
  t.pins.force = s.pins.force ∧
  ∀ n : Pin,
    t.pins.held[n] = some (s.pinState n) ∧
    t.pins.owner[n] = (if s.pins.force[n].isSome then .force else .fallback) ∧
    t.sampler.settle[n] =
      if t.pins.owner[n] ≠ s.pins.owner[n] then (s.pinRow n).settle else s.sampler.settle[n]

/-- R142, R69: `t` is `s` after a departure from FALLBACK. -/
def LeavesFallback (s t : State) : Prop :=
  t.mc = { s.mc with mode := .running, timer := some (s.policy.timeout * 100) } ∧
  t.pins.force = s.pins.force ∧ t.pins.held = s.pins.held ∧ DecidedAnew s t

/-! ### Validation -/

/-- R21. -/
def Bank.PolicyFails (b : Bank) : Prop :=
  let r := b.policy
  (r.b0 = 0 ∧ r.b1 = 0) ∨ r.b2 = 0 ∨ 1 < r.b3.toNat ∨ 1 < r.b4.toNat ∨ 1 < r.b5.toNat ∨ r.b6 ≠ 0 ∨ r.b7 ≠ 0

/-- R22. -/
def Bank.FuncFails (b : Bank) (i : Fin 8) : Prop :=
  let r := b.func[i]
  1 < r.b0.toNat ∨ (i.val ≤ 3 ∧ 1 < r.b1.toNat) ∨ (4 ≤ i.val ∧ 3 < r.b1.toNat) ∨
    r.b2 ≠ 0 ∨ r.b3 ≠ 0 ∨ r.b4 ≠ 0 ∨ r.b5 ≠ 0 ∨ r.b6 ≠ 0 ∨ r.b7 ≠ 0

/-- R23: the first check that pin row `n` fails gives reason `w`. -/
def Bank.PinFails (b : Bank) (n : Pin) (w : Reason) : Prop :=
  let r := b.pin[n]
  let badValue := (∃ c ∈ r.claimants, 10 < c.toNat) ∨ 3 < r.b3.toNat ∨ 3 < r.b4.toNat ∨
    15 < r.b5.toNat ∨ 15 < r.b6.toNat ∨ 2 < r.b7.toNat
  let duplicate := ∃ c : Byte, c ≠ 0 ∧ 1 < r.claimants.count c
  let multiplaced := ∃ m < n, ∃ c : Byte, 2 ≤ c.toNat ∧ c.toNat ≤ 9 ∧ c ∈ b.pin[m].claimants ∧ c ∈ r.claimants
  (w = .badValue ∧ badValue) ∨ (w = .duplicate ∧ ¬ badValue ∧ duplicate) ∨
    (w = .multiplaced ∧ ¬ badValue ∧ ¬ duplicate ∧ multiplaced)

/-- R23, the fourth check: the unit of function row `u` (PG0 to PG3, CC0 to CC3) is enabled and named on no pin. -/
def Bank.Unplaced (b : Bank) (u : Fin 8) : Prop :=
  b.func[u].b0 = 1 ∧ ∀ n : Pin, BitVec.ofNat 8 (2 + u.val) ∉ b.pin[n].claimants

/-- R24: slot row `i` is enabled, and the first check that it fails against the enabled rows before it gives reason
`w`. -/
def Bank.SlotFails (b : Bank) (i : Fin 32) (w : Reason) : Prop :=
  let r := b.slot[i]
  let badValue := r.chan = none ∨ ∃ c, r.chan = some c ∧
    (c.instances ≤ r.b1.toNat ∨ (c = .evblk ∧ (r.count = 0 ∨ 8 < r.count)) ∨ (c ≠ .evblk ∧ r.count ≠ 0) ∨
      r.b5 ≠ 0 ∨ r.b6 ≠ 0 ∨ r.b7 ≠ 0)
  let range := 512 < r.offset + r.width
  let duplicate := ∃ j < i, ∃ c, r.chan = some c ∧ b.slot[j].chan = some c ∧
    ((c.isIn = false ∧ r.b1 = b.slot[j].b1) ∨ c = .evblk ∨ c = .evack)
  let overlap := ∃ j < i, ∃ c d, r.chan = some c ∧ b.slot[j].chan = some d ∧ c.isIn = true ∧ d.isIn = true ∧
    ∃ k, r.offset ≤ k ∧ k < r.offset + r.width ∧ b.slot[j].offset ≤ k ∧ k < b.slot[j].offset + b.slot[j].width
  r.b0 ≠ 0 ∧
    ((w = .badValue ∧ badValue) ∨ (w = .range ∧ ¬ badValue ∧ range) ∨
      (w = .duplicate ∧ ¬ badValue ∧ ¬ range ∧ duplicate) ∨
      (w = .overlap ∧ ¬ badValue ∧ ¬ range ∧ ¬ duplicate ∧ overlap))

/-! ### What every step keeps -/

/-- R94: at most 32 records, with consecutive numbers, the newest one below the next sequence number. -/
def EventQueue.Consecutive (q : EventQueue) : Prop :=
  q.records.length ≤ 32 ∧
    ∀ i (h : i < q.records.length), q.records[i].seq = q.nextSeq - BitVec.ofNat 16 (q.records.length - i)

/-- R58, R60: every pin's current owner is its deciding source. A provisional address is held by an UNADDRESSED
node only (R133). -/
def State.OwnersDecided (s : State) : Prop :=
  (∀ n : Pin, s.pins.owner[n] = s.deciding n) ∧
    ∀ f, s.fp.frame = some f → f.provisional.isSome = true → s.mc.mode = .unaddressed

/-- R132, R133: the node address and the provisional address. -/
def State.AddressesOk (s : State) : Prop :=
  (s.mc.address = 0 ↔ s.mc.mode = .unaddressed) ∧ s.mc.address.toNat ≤ 250 ∧
    ∀ f a, s.fp.frame = some f → f.provisional = some a → s.mc.mode = .unaddressed ∧ a ≠ 0 ∧ a.toNat ≤ 250

/-- R2, R4, R5, R6: the generations, the long operation and the tables in force. -/
def State.GenerationsOk (s : State) : Prop :=
  (s.banks.gen = 0 ↔ s.mc.mode = .unaddressed ∨ s.mc.mode = .standby) ∧
  (s.banks.gen = 0 → s.banks.activeBank = Bank.zero) ∧
  (s.banks.gen ≠ 0 → validate s.banks.activeBank = none) ∧
  (∀ g, s.banks.armed = some g →
    g ≠ 0 ∧ g ≠ s.banks.gen ∧ s.banks.longOp = .idle ∧ validate s.banks.stagedBank = none) ∧
  ∀ g, s.banks.longOp = .validating g → g ≠ 0 ∧ g ≠ s.banks.gen

/-- R137, R152, R175, R76, R65: the frame watch timer, the exchange slot and the force records in each mode. -/
def State.ModesOk (s : State) : Prop :=
  (s.mc.timer.isSome = true ↔ s.mc.mode = .running) ∧
  (s.banks.longOp ≠ .idle ↔ ∃ tag code, s.mx.slot = .working tag code) ∧
  (s.mc.mode = .unaddressed →
    s.mx.slot = .idle ∧ s.banks.armed = none ∧ ∀ n : Pin, s.pins.force[n] = none) ∧
  (s.mc.mode = .running ∨ s.mc.mode = .fallback → s.policy.permit = false → ∀ n : Pin, s.pins.force[n] = none)

/-- Table 7-1 with the rules it gathers. -/
def State.Consistent (s : State) : Prop := s.AddressesOk ∧ s.GenerationsOk ∧ s.ModesOk

/-- R110, R111, Table 6-1: a pulse generator with this function row and this value in the current tier. The phase stands
at the period while a period start is due (entry 10); the restart mark is held at phase 0 only (entry 23). -/
def PulseGen.Ok (row : Row) (v : Setpoint) (u : PulseGen) : Prop :=
  u.nextPeriod = v.period ∧ u.nextWidth = v.width ∧
  match u.state with
  | .off => row.unitEnabled = false ∧ u.period = 0 ∧ u.outActive = false ∧ u.restarted = false
  | .stopped =>
    row.unitEnabled = true ∧ u.period = 0 ∧ u.nextPeriod = 0 ∧ u.outActive = false ∧ u.restarted = false
  | .running p =>
    row.unitEnabled = true ∧ u.period ≠ 0 ∧ u.nextPeriod ≠ 0 ∧ p ≤ u.period.toNat ∧ (u.restarted = true → p = 0)

/-- R110, R111: every pulse generator. -/
def State.PulseOk (s : State) : Prop :=
  ∀ n : Unit4, s.pg[n].Ok (s.banks.activeBank.pgRow n) s.store.pgset[n]

/-- R182 to R184, R34, R8: the frame in passage and the frame-pending tier. A frame is in passage only while the
IN link is UP; its header is judged exactly when eight positions have arrived; it has at most 564 positions; a
processed frame is bound to the bank that holds the ACTIVE role; without one the frame-pending tier is empty. -/
def State.FrameOk (s : State) : Prop :=
  (∀ f, s.fp.frame = some f →
    s.held = false ∧ s.link.inState = .up ∧ f.arrived.length ≤ 564 ∧
    (f.header = .awaited ↔ f.arrived.length < 8) ∧
    (f.processed = true → f.bound = s.banks.active ∧ ∃ L, f.header = .good .process L)) ∧
  (s.store.framePending = FramePending.empty ∨ ∃ f, s.fp.frame = some f ∧ f.processed = true)

/-- R163: the view's next row never exceeds the size of the table it names. -/
def State.ViewOk (s : State) : Prop := s.mx.view.next ≤ s.mx.view.table.size

/-- `P` is kept by every step that answers a next state. -/
def KeptByEveryStep (P : State → Prop) : Prop := ∀ s t, P s → step s = .next t → P t

end Sys2Proof.Machine
end

