-- ==== Sys2Proof/Certificates/Slice0/Obligations.lean ====
section
/-! DEFINITION. The statements about the N24 for the provers. -/

open Sys2Proof Sys2Proof.Machine

/-! ### The block -/

/-- A step takes the command at the front of the queue and runs it on the node with the queue's rest. On an empty
queue the block idles: the model's choice (entry 2). -/
def Obligations.StepRunsFrontCommand : Prop :=
  (∀ (c : Instr) (rest : List Instr) (s : State),
    s.pending = c :: rest → step s = exec c { s with pending := rest }) ∧
  ∀ s : State, s.pending = [] → step s = .next s

/-- No command stops the node, and no command touches the queue. That a command which is not due, or whose operands
are ill-formed, answers a next state too is the model's choice (entries 1 and 21), as is the queue itself (entry 18). -/
def Obligations.EveryCommandAnswersNextAndKeepsQueue : Prop :=
  ∀ (c : Instr) (s : State), ∃ t, exec c s = .next t ∧ t.pending = s.pending

/-! ### Reset -/

/-- The values of every reset, item by item, whatever the state before it, for each of the three kinds; the debounced
levels are those of the first sample. State.reset has the same values: the levels there, all LOW, and the choice of a
POWER reset are the model's (entry 9), as is the counter of free values (entry 7). The model's own as well: the empty
line and error run and the discarding mark (entries 5, 6, 13), no sample due and no output mark (entry 10), no restart
mark (entry 23). -/
def Obligations.ResetValues : Prop :=
  let atReset := fun (cause : ResetCause) (s : State) =>
    s.banks = ⟨Bank.zero, Bank.zero, .bank0, 0, none, .idle⟩ ∧
    s.store.dout = 0 ∧ s.store.strobePending = none ∧ s.store.framePending.dout = none ∧
    s.store.framePending.evack = none ∧
    (∀ n : Unit4, s.store.pgset[n] = ⟨0, 0⟩ ∧ s.store.toggles[n] = false ∧
      s.store.framePending.pgset[n] = none ∧ s.store.framePending.ccctl[n] = none ∧
      s.pg[n] = ⟨.off, 0, 0, 0, 0, false, false⟩ ∧ s.cc[n] = ⟨0, 0, none⟩) ∧
    (∀ n : Pin, s.pins.force[n] = none ∧ s.pins.held[n] = none ∧ s.pins.owner[n] = .idle ∧
      s.sampler.run[n] = 0 ∧ s.sampler.settle[n] = 0) ∧
    s.sampler.tick = 0 ∧ s.sampler.phase = 0 ∧ s.sampler.snapshot = 0 ∧ s.sampler.due = false ∧
    s.queue = ⟨[], 0, 0⟩ ∧
    s.mc = ⟨0, .unaddressed, .none, none, none, cause⟩ ∧
    s.mx = ⟨.idle, none, ⟨.active, .slot, 0⟩⟩ ∧
    s.fp = ⟨none, 0⟩ ∧
    s.link = ⟨.down, 0, none, .brk, [], 0, false⟩ ∧
    s.stats = ⟨0, 0, 0, 0, 0, 0, 0, 0, 0, 0, 0, 0, 0, 0, 0, 0⟩ ∧
    s.hold = ⟨.off, .off, .off⟩
  (∀ i : Fin 32, Bank.zero.slot[i].bytes = List.replicate 8 0) ∧
  (∀ i : Pin, Bank.zero.pin[i].bytes = List.replicate 8 0) ∧
  (∀ i : Fin 8, Bank.zero.func[i].bytes = List.replicate 8 0) ∧
  Bank.zero.policy.bytes = List.replicate 8 0 ∧
  atReset ⟨true, false, false⟩ State.reset ∧ State.reset.sampler.level = 0 ∧ State.reset.freeCount = 0 ∧
  State.reset.pending = [] ∧
  (∀ (field : List PadField) (s : State), s.hold.pin ≠ .waiting → ∃ a b t,
    exec .powerReset s = .next a ∧ exec .supplyGood a = .next b ∧ exec (.endOfReset field) b = .next t ∧
    atReset ⟨true, false, false⟩ t) ∧
  (∀ (field : List PadField) (s : State), s.hold.power ≠ .waiting → ∃ a b t,
    exec .pinReset s = .next a ∧ exec .nrstRises a = .next b ∧ exec (.endOfReset field) b = .next t ∧
    atReset { s.mc.resetCause with pin := true } t) ∧
  ∀ (field : List PadField) (s : State), s.held = false → s.mc.restart = some 0 → ∃ a t,
    exec .softReset s = .next a ∧ exec (.endOfReset field) a = .next t ∧
    atReset { s.mc.resetCause with soft := true } t

/-- Each kind of reset, when it begins: every item at its reset value, OUT SILENT, the reset cause record updated,
the reset in progress. A SOFT reset begins when restart pending is set and the carrying frame has left OUT.
SUPPLY_GOOD and NRST_RISES start the hold time of a reset in progress and change nothing else. -/
def Obligations.ResetsBegin : Prop :=
  (∀ s : State, exec .powerReset s = .next { State.reset with
    mc := ModeController.reset ⟨true, false, false⟩
    link := LinkInterface.reset .silent
    hold := { s.hold with power := .waiting }
    freeCount := s.freeCount, pending := s.pending }) ∧
  (∀ s : State, exec .pinReset s = .next { State.reset with
    mc := ModeController.reset { s.mc.resetCause with pin := true }
    link := LinkInterface.reset .silent
    hold := { s.hold with pin := .waiting }
    freeCount := s.freeCount, pending := s.pending }) ∧
  (∀ s : State, s.held = false → s.mc.restart = some 0 → exec .softReset s = .next { State.reset with
    mc := ModeController.reset { s.mc.resetCause with soft := true }
    link := LinkInterface.reset .silent
    hold := { s.hold with soft := .timing }
    freeCount := s.freeCount, pending := s.pending }) ∧
  (∀ s : State, s.hold.power = .waiting →
    exec .supplyGood s = .next { s with hold := { s.hold with power := .timing } }) ∧
  ∀ s : State, s.hold.pin = .waiting →
    exec .nrstRises s = .next { s with hold := { s.hold with pin := .timing } }

/-- The end of reset: OUT in BREAK, the first sample at tick 0 of pads that the node leaves in HIGHZ. -/
def Obligations.EndOfResetTakesFirstSample : Prop :=
  ∀ (field : List PadField) (s : State),
    s.held = true → s.hold.power ≠ .waiting → s.hold.pin ≠ .waiting →
    ∃ t, exec (.endOfReset field) s = .next t ∧
      t = { s with
        hold := ⟨.off, .off, .off⟩
        link := { s.link with out := .brk }
        sampler := ⟨0, 0, t.sampler.level, Vector.replicate 24 0, Vector.replicate 24 0, 0, false⟩
        freeCount := s.freeCount + 1 } ∧
      ∀ n : Pin, t.sampler.level.getLsbD n.val =
        match field.getD n.val .floating with
        | .overcomes high => high
        | .level high => high
        | .floating => Config.openReading s.freeCount n.val

/-- While the node is held in reset every pin is in HIGHZ, and nothing is taken but what begins or ends a reset. -/
def Obligations.HeldNodeTakesNothing : Prop :=
  ∀ s : State, s.held = true →
    (∀ n : Pin, s.pinState n = .highz) ∧
    ∀ c : Instr, c ≠ .powerReset → c ≠ .pinReset → (∀ field, c ≠ .endOfReset field) →
      c ≠ .supplyGood → c ≠ .nrstRises → exec c s = .next s

/-! ### Link -/

/-- R177 for valid symbols while the IN link is not UP, with the received break mark (R181). A start delimiter is
the matter of another statement. -/
def Obligations.ValidSymbolSettlesInLink : Prop :=
  ∀ (sym : Symbol) (s : State), s.held = false → s.link.inState ≠ .up → sym ≠ .startDelimiter →
    exec (.validSymbol sym) s = .next { s with link := { s.link with
      inState := .settling
      cleanIdles :=
        match s.link.inState, sym with
        | .down, .plainIdle => 1
        | .down, .breakIdle _ => 1
        | .down, _ => 0
        | _, .plainIdle => min 1024 (s.link.cleanIdles + 1)
        | _, .breakIdle _ => min 1024 (s.link.cleanIdles + 1)
        | _, _ => s.link.cleanIdles
      errorRun := 0
      breakMark :=
        match sym with
        | .plainIdle => none
        | .breakIdle a => some a
        | _ => s.link.breakMark } }

/-- R181: with the IN link UP and no frame in passage, each position is put on the line to OUT as an idle. -/
def Obligations.IdlePositionsAreRelayed : Prop :=
  ∀ s : State, s.held = false → s.link.inState = .up → s.fp.frame = none →
    let marked : OutSym :=
      match s.link.breakMark with
      | none => .plainIdle
      | some a => .breakIdle a
    exec (.validSymbol .plainIdle) s = .next { s with link := { s.link with
      line := drain (s.link.line ++ [.plainIdle]), breakMark := none, errorRun := 0 } } ∧
    (∀ a, exec (.validSymbol (.breakIdle a)) s = .next { s with link := { s.link with
      line := drain (s.link.line ++ [.breakIdle a]), breakMark := some a, errorRun := 0 } }) ∧
    (∀ b, exec (.validSymbol (.data b)) s = .next { s with link := { s.link with
      line := drain (s.link.line ++ [marked]), errorRun := 0 } }) ∧
    (∀ sym, sym = .endDelimiter ∨ sym = .abortDelimiter →
      exec (.validSymbol sym) s = .next { s with link := { s.link with
        line := drain (s.link.line ++ [marked]), errorRun := 0, discarding := false } }) ∧
    exec .symbolError s = .next { s with link := { s.link with
      line := drain (s.link.line ++ [marked]), errorRun := s.link.errorRun + 1 } }

/-- What leaves the line while idles arrive: the idles at its head that have a forwarding delay of symbols behind them,
and all of those (entry 5). -/
def Obligations.OnlyDelayedIdlesLeaveTheLine : Prop :=
  ∀ line : List OutSym, ∃ gone, line = gone ++ drain line ∧
    (∀ x ∈ gone, x = .plainIdle ∨ ∃ a, x = .breakIdle a) ∧
    (gone ≠ [] → 48 ≤ (drain line).length) ∧
    ∀ x rest, drain line = x :: rest → (x = .plainIdle ∨ ∃ a, x = .breakIdle a) → rest.length < 48

/-- R177, R178: a symbol error does nothing in DOWN and restarts the clean-idle count in SETTLING. In a position of a
frame in passage that completes nothing it damages the frame and is sent as an error symbol; after the trailer position
of a frame with a good header it is an excess byte as well (R187), and in the 565th position it aborts the frame (R188;
the mark of the rest is entry 13). A plain idle or a break idle in these positions is taken as a symbol error, but it is
a valid symbol, which ends the error run (entry 6). -/
def Obligations.SymbolErrorEffects : Prop :=
  (∀ s : State, s.held = false → s.link.inState = .down → exec .symbolError s = .next s) ∧
  (∀ s : State, s.held = false → s.link.inState = .settling →
    exec .symbolError s = .next { s with link := { s.link with
      cleanIdles := 0, errorRun := s.link.errorRun + 1 } }) ∧
  ∀ (f : Frame) (s : State), s.passing f → s.link.inState = .up →
    let arrives := fun c x run =>
      (f.headerDue [x] = false → f.fieldDue [x] = false → f.lastOfSegment = false → f.excessDue = false →
        f.arrived.length < 564 →
        exec c s = .next { s with
          fp := { s.fp with frame := some { f with arrived := f.arrived ++ [x], damaged := true } }
          link := { s.link with line := drain (s.link.line ++ [.error]), errorRun := run } }) ∧
      (∀ t L, f.header = .good t L → expectedLength t L ≤ f.arrived.length → f.arrived.length < 564 →
        exec c s = .next { s with
          fp := { s.fp with frame := some { f with arrived := f.arrived ++ [x], damaged := true } }
          link := { s.link with
            line := drain ((if f.arrived.length = expectedLength t L then
              writeTrailer f.arrived.length false s.link.line else s.link.line) ++ [.error])
            errorRun := run } }) ∧
      (f.arrived.length = 564 →
        exec c s = .next { s with
          fp := { s.fp with frame := none }
          stats := { s.stats with aborted := satInc s.stats.aborted }
          store := { s.store with framePending := FramePending.empty }
          link := { s.link with
            errorRun := run
            discarding := true
            line := drain ((match f.header with
              | .good t L =>
                if expectedLength t L = 564 then writeTrailer 564 false s.link.line else s.link.line
              | _ => s.link.line) ++ [.abortDelimiter]) } })
    arrives .symbolError .error (s.link.errorRun + 1) ∧
    arrives (.validSymbol .plainIdle) .idle 0 ∧
    ∀ a, arrives (.validSymbol (.breakIdle a)) .idle 0

/-- R182: a start delimiter opens a working record when the IN link is UP and no frame is in passage; it aborts
the frame in passage, and is dropped; and it is dropped, counted as aborted, while the IN link is not UP. The same
symbol given as a valid symbol has the same effect. A frame cut before its header is judged is no header error: the
model's reading of R183 and R189 (entry 14). The cases shut out by the discarding mark are entry 13's. -/
def Obligations.StartDelimiterAcceptsOrDrops : Prop :=
  (∀ s : State, exec (.validSymbol .startDelimiter) s = exec .startDelimiter s) ∧
  (∀ s : State, s.held = false → s.link.inState ≠ .up →
    exec .startDelimiter s = .next { s with
      link := { s.link with
        inState := .settling
        cleanIdles := if s.link.inState = .down then 0 else s.link.cleanIdles
        breakMark := none, errorRun := 0 }
      stats := { s.stats with aborted := satInc s.stats.aborted } }) ∧
  (∀ s : State, s.held = false → s.link.inState = .up → s.link.discarding = false → s.fp.frame = none →
    exec .startDelimiter s = .next { s with
      fp := { s.fp with frame := some ⟨[], .awaited, false, s.banks.active, false, none, []⟩ }
      link := { s.link with
        line := drain (s.link.line ++ [.startDelimiter]), breakMark := none, errorRun := 0 } }) ∧
  ∀ (f : Frame) (s : State), s.passing f → s.link.inState = .up → s.link.discarding = false →
    exec .startDelimiter s = .next { s with
      fp := { s.fp with frame := none }
      stats := { s.stats with aborted := satInc s.stats.aborted }
      store := { s.store with framePending := FramePending.empty }
      link := { s.link with
        line := drain (s.link.line ++ [.abortDelimiter]), breakMark := none, errorRun := 0 } }

/-- R177, R180: when the IN link comes UP, OUT moves from BREAK to IDLE with plain idles to send first. In BREAK
the node sends break idles with its own address; a start delimiter that leaves takes OUT to
FORWARDING; an end or abort delimiter takes it to IDLE while the IN link is UP, and otherwise to BREAK when no
accepted frame is left to leave. The symbols before the delimiter leave with it, and a frame end that leaves is
counted for restart pending (entries 5, 15 and 16). -/
def Obligations.OutTransmitStateMoves : Prop :=
  (∀ s : State, s.held = false → s.link.inState = .settling → s.link.cleanIdles = 1024 → s.link.out = .brk →
    exec .linkUp s = .next { s with link := { s.link with
      inState := .up, out := .idle, line := List.replicate 48 .plainIdle } }) ∧
  (∀ s : State, s.link.out = .brk → s.ownSymbol = some (.breakIdle s.mc.address)) ∧
  (∀ (front rest : List OutSym) (s : State), s.held = false →
    s.link.line = front ++ .startDelimiter :: rest →
    (∀ x ∈ front, x ≠ .startDelimiter ∧ x.isEnding = false) →
    exec .delimiterLeavesOut s = .next { s with link := { s.link with
      out := .forwarding, line := rest } }) ∧
  ∀ (front rest : List OutSym) (x : OutSym) (s : State), s.held = false →
    s.link.line = front ++ x :: rest → (x = .endDelimiter ∨ x = .abortDelimiter) →
    (∀ y ∈ front, y ≠ .startDelimiter ∧ y.isEnding = false) →
    exec .delimiterLeavesOut s = .next { s with
      mc := { s.mc with restart := s.mc.restart.map (· - 1) }
      link :=
        if s.link.inState ≠ .up ∧ ∀ y ∈ rest, y.isEnding = false then
          { s.link with out := .brk, line := [] }
        else { s.link with out := .idle, line := rest } }

/-- R179, R188, R139: a link-down event. The frame in passage is aborted and a RUNNING node enters FALLBACK with
cause LINK; in FALLBACK the cause is kept (entry 22). The model's readings: the symbols of the error run are taken off
the line (entry 6), the discarding mark is cleared (entry 13), a frame cut before its header is no header error
(entry 14), and OUT goes on while frame ends remain on the line (entry 15). -/
def Obligations.LinkDownEventEffects : Prop :=
  ∀ s : State, s.held = false → s.link.inState ≠ .down →
    ∃ t, exec .linkDownEvent s = .next t ∧
      t.link = { s.link with
        inState := .down, cleanIdles := 0, errorRun := 0, discarding := false
        out := t.link.out, line := t.link.line } ∧
      t.fp = { s.fp with frame := none } ∧
      t.store = (if s.fp.frame.isSome then { s.store with framePending := FramePending.empty } else s.store) ∧
      t.stats = { s.stats with
        linkDown := satInc s.stats.linkDown
        aborted := if s.fp.frame.isSome then satInc s.stats.aborted else s.stats.aborted
        fallbackEntries :=
          if s.mc.mode = .running then satInc s.stats.fallbackEntries else s.stats.fallbackEntries } ∧
      (s.mc.mode = .running → EntersFallback .link s t) ∧
      (s.mc.mode ≠ .running → t.mc = s.mc ∧ t.pins = s.pins ∧ t.sampler = s.sampler) ∧
      (s.fp.frame = none → (∀ x ∈ s.link.line, x.isEnding = false) → t.link.out = .brk ∧ t.link.line = []) ∧
      (s.fp.frame = none → (∃ x ∈ s.link.line, x.isEnding = true) →
        t.link.out = s.link.out ∧ t.link.line = s.link.line) ∧
      (∀ f, s.fp.frame = some f → t.link.out = s.link.out ∧ t.link.line =
        drain (replaceTail (min s.link.errorRun f.arrived.length) [] s.link.line ++ [.abortDelimiter])) ∧
      t = { s with
        link := t.link, fp := t.fp, store := t.store, stats := t.stats, mc := t.mc, pins := t.pins
        sampler := { s.sampler with settle := t.sampler.settle } }

/-! ### Headers -/

/-- R183: a frame with a bad header is forwarded as it arrived, and counted once. -/
def Obligations.BadHeaderForwarded : Prop :=
  ∀ (f : Frame) (rest : List Sym) (s : State), s.passing f → f.headerDue rest = true →
    judgeHeader (f.arrived ++ rest) = none →
    exec (.frameHeader rest) s = .next { s with
      stats := { s.stats with headerErrors := satInc s.stats.headerErrors }
      fp := { s.fp with frame := some { f with
        header := .bad
        arrived := f.arrived ++ rest
        damaged := f.damaged || rest.any Sym.damages } }
      link := { s.link with
        line := drain (s.link.line ++ rest.map Sym.out)
        errorRun := errorRunAfter s.link.errorRun rest } }

/-- R183: which eight positions are a good header. -/
def Obligations.GoodHeaderIffChecksHold : Prop :=
  ∀ b0 b1 b2 b3 b4 b5 b6 b7 : Byte,
    let L := b4.toNat + 256 * b5.toNat
    let judged := judgeHeader [.byte b0, .byte b1, .byte b2, .byte b3, .byte b4, .byte b5, .byte b6, .byte b7]
    (judged.isSome = true ↔
      crc8 [b0, b1, b2, b3, b4, b5, b6] = b7 ∧
      (b0 = 0xA1 ∨ b0 = 0xA2 ∨ b0 = 0xA3) ∧ (b0 = 0xA1 → L ≤ 512)) ∧
    (∀ h, judged = some h → h.gen = b1 ∧ h.length = L ∧ h.hop = b6 ∧
      (h.type = .process ↔ b0 = 0xA1) ∧ (h.type = .strobe ↔ b0 = 0xA2) ∧ (h.type = .address ↔ b0 = 0xA3)) ∧
    ∀ syms : List Sym, (∃ x ∈ syms, ∀ b, x ≠ .byte b) → judgeHeader syms = none

/-- R184 with the outcomes of R7 that process nothing, R9, R10 and R135: a good header has its hop count and check
rewritten and its position recorded; an ADDRESS header, a PROCESS header at a node without an address, a
management-only one and a mismatch change nothing else but the mismatch counter. -/
def Obligations.GoodHeaderRewritten : Prop :=
  ∀ (f : Frame) (rest : List Sym) (h : Header) (s : State), s.passing f → f.headerDue rest = true →
    judgeHeader (f.arrived ++ rest) = some h →
    let mismatch := s.mc.address ≠ 0 ∧ h.gen ≠ 0 ∧ s.banks.armed ≠ some h.gen ∧
      (s.banks.gen = 0 ∨ h.gen ≠ s.banks.gen)
    (h.type = .address ∨ h.type = .process ∧ (s.mc.address = 0 ∨ h.gen = 0 ∨ mismatch)) →
    let bytes := (f.arrived ++ rest).map Sym.value
    let sent := bytes.take 6 ++ [if h.hop = 255 then 255 else h.hop + 1]
    exec (.frameHeader rest) s = .next { s with
      stats :=
        if h.type = .process ∧ mismatch then
          { s.stats with genMismatch := satInc s.stats.genMismatch } else s.stats
      fp := ⟨some { f with arrived := f.arrived ++ rest, header := .good h.type h.length }, h.hop⟩
      link := { s.link with
        line := drain (replaceTail f.arrived.length ((sent ++ [crc8 sent]).map OutSym.data) s.link.line)
        errorRun := 0 } }

/-- R7, R8, R38, R53, R184: a PROCESS header whose generation is the active one. -/
def Obligations.ProcessedHeaderBindsActiveBank : Prop :=
  ∀ (f : Frame) (rest : List Sym) (h : Header) (s : State), s.passing f → f.headerDue rest = true →
    judgeHeader (f.arrived ++ rest) = some h → h.type = .process → s.mc.address ≠ 0 →
    s.banks.gen ≠ 0 → h.gen = s.banks.gen → s.banks.armed ≠ some h.gen →
    let bytes := (f.arrived ++ rest).map Sym.value
    let sent := bytes.take 6 ++ [if h.hop = 255 then 255 else h.hop + 1]
    exec (.frameHeader rest) s = .next { s with
      stats :=
        if ∃ r ∈ s.banks.activeBank.slot.toList, r.b0 ≠ 0 ∧ h.length < r.offset + r.width then
          { s.stats with shortFrames := satInc s.stats.shortFrames } else s.stats
      fp := ⟨some { f with
        arrived := f.arrived ++ rest, header := .good .process h.length
        processed := true, bound := s.banks.active }, h.hop⟩
      sampler := { s.sampler with
        snapshot := if s.policy.b3 = 1 then s.sampler.snapshot else s.sampler.level }
      link := { s.link with
        line := drain (replaceTail f.arrived.length ((sent ++ [crc8 sent]).map OutSym.data) s.link.line)
        errorRun := 0 } }

/-- R11, R12, R54, R65, R71, R79, R121, R128, R136, R184: a PROCESS header whose generation is armed switches the node.
The restart mark of a unit that the switch starts is the model's (entry 23). -/
def Obligations.ArmedHeaderSwitches : Prop :=
  ∀ (f : Frame) (rest : List Sym) (h : Header) (s : State), s.passing f → f.headerDue rest = true →
    judgeHeader (f.arrived ++ rest) = some h → h.type = .process → s.mc.address ≠ 0 →
    h.gen ≠ 0 → s.banks.armed = some h.gen →
    let bytes := (f.arrived ++ rest).map Sym.value
    let sent := bytes.take 6 ++ [if h.hop = 255 then 255 else h.hop + 1]
    let old := s.banks.activeBank
    let new := s.banks.stagedBank
    ∃ t, exec (.frameHeader rest) s = .next t ∧
      t.banks.activeBank = new ∧ t.banks.stagedBank = old ∧
      t.banks = { s.banks with active := t.banks.active, gen := h.gen, armed := none } ∧
      t.store = { s.store with strobePending := none } ∧
      t.pins.held = s.pins.held ∧
      (∀ n : Pin,
        t.pins.force[n] = (if new.policy.b5 = 1 then s.pins.force[n] else none) ∧
        t.pins.owner[n] = t.deciding n ∧
        t.sampler.settle[n] =
          if t.pins.owner[n] ≠ s.pins.owner[n] ∨ old.pin[n].claimants ≠ new.pin[n].claimants then
            new.pin[n].settle else s.sampler.settle[n]) ∧
      (∀ n : Unit4,
        (old.pgRow n = new.pgRow n → t.pg[n] = s.pg[n]) ∧
        (old.pgRow n ≠ new.pgRow n → t.pg[n] =
          let u := s.pg[n]
          if (new.pgRow n).b0 ≠ 1 then
            { u with state := .off, period := 0, width := 0, outActive := false, restarted := false }
          else if u.nextPeriod = 0 then
            { u with
              state := .stopped, period := 0, width := u.nextWidth, outActive := false, restarted := false }
          else { u with
            state := .running 0, period := u.nextPeriod, width := u.nextWidth
            outActive := u.nextWidth != 0, restarted := true }) ∧
        t.cc[n] = if old.ccRow n = new.ccRow n then s.cc[n] else ⟨0, 0, none⟩) ∧
      t.mc = (if s.mc.mode = .standby then
        { s.mc with mode := .running, timer := some (new.policy.timeout * 100) } else s.mc) ∧
      t = { s with
        banks := t.banks, store := t.store, pins := t.pins, pg := t.pg, cc := t.cc, mc := t.mc
        sampler := { s.sampler with
          settle := t.sampler.settle
          snapshot := if new.policy.b3 = 1 then s.sampler.snapshot else s.sampler.level }
        stats :=
          if ∃ r ∈ new.slot.toList, r.b0 ≠ 0 ∧ h.length < r.offset + r.width then
            { s.stats with shortFrames := satInc s.stats.shortFrames } else s.stats
        fp := ⟨some { f with
          arrived := f.arrived ++ rest, header := .good .process h.length
          processed := true, bound := t.banks.active }, h.hop⟩
        link := { s.link with
          line := drain (replaceTail f.arrived.length ((sent ++ [crc8 sent]).map OutSym.data) s.link.line)
          errorRun := 0 } }

/-- R50 to R53, R184: a STROBE header. It is acted on when A is not 0 and equals its generation; only STROBED mode does
anything then. Where the owners are the deciding sources, a pin is marked exactly when its owner changes (R70, R72). -/
def Obligations.StrobeHeaderReleasesSet : Prop :=
  ∀ (f : Frame) (rest : List Sym) (h : Header) (s : State), s.passing f → f.headerDue rest = true →
    judgeHeader (f.arrived ++ rest) = some h → h.type = .strobe →
    let bytes := (f.arrived ++ rest).map Sym.value
    let sent := bytes.take 6 ++ [if h.hop = 255 then 255 else h.hop + 1]
    let link := { s.link with
      line := drain (replaceTail f.arrived.length ((sent ++ [crc8 sent]).map OutSym.data) s.link.line)
      errorRun := 0 }
    let fp : FrameProcessor :=
      ⟨some { f with arrived := f.arrived ++ rest, header := .good .strobe h.length }, h.hop⟩
    let acts := s.banks.gen ≠ 0 ∧ h.gen = s.banks.gen ∧ s.policy.b3 = 1
    (¬ acts → exec (.frameHeader rest) s = .next { s with fp := fp, link := link }) ∧
    (acts → s.store.strobePending = none → exec (.frameHeader rest) s = .next { s with
      fp := fp, link := link, sampler := { s.sampler with snapshot := s.sampler.level } }) ∧
    ∀ o, acts → s.store.strobePending = some o → ∃ t, exec (.frameHeader rest) s = .next t ∧
      t.store.strobePending = none ∧ t.store.dout = o.dout.getD s.store.dout ∧
      t.store.framePending = s.store.framePending ∧ t.store.toggles = s.store.toggles ∧
      (∀ n : Unit4, t.store.pgset[n] = o.pgset[n].getD s.store.pgset[n] ∧
        t.pg[n] = match o.pgset[n] with
          | some p => s.pg[n].take p
          | none => s.pg[n]) ∧
      (s.OwnersDecided → DecidedAnew s t) ∧
      t = { s with
        fp := fp, link := link, store := t.store, pg := t.pg
        pins := { s.pins with owner := t.pins.owner }
        sampler := { s.sampler with settle := t.sampler.settle, snapshot := s.sampler.level }
        stats := { s.stats with strobesApplied := satInc s.stats.strobesApplied } }

/-- R133, R135: the next-address field at an UNADDRESSED node and at any other; an error symbol in the field is
read as 0x00 (entry 11). -/
def Obligations.AddressFieldTaken : Prop :=
  ∀ (f : Frame) (rest : List Sym) (x0 x1 : Sym) (s : State), s.passing f → f.fieldDue rest = true →
    f.arrived.drop 8 ++ rest = [x0, x1] →
    let n := (Sym.value x0).toNat + 256 * (Sym.value x1).toNat
    let forwarded := { f with
      arrived := f.arrived ++ rest, damaged := f.damaged || rest.any Sym.damages }
    (s.mc.mode = .unaddressed → 1 ≤ n → n ≤ 250 →
      exec (.addressField rest) s = .next { s with
        fp := { s.fp with frame := some { forwarded with provisional := some (BitVec.ofNat 8 n) } }
        link := { s.link with
          line := drain (replaceTail (f.arrived.length - 8)
            (overwrite [Sym.out x0, Sym.out x1] [BitVec.ofNat 8 (n + 1), 0]) s.link.line)
          errorRun := errorRunAfter s.link.errorRun rest } }) ∧
    (s.mc.mode ≠ .unaddressed ∨ n = 0 ∨ 250 < n →
      exec (.addressField rest) s = .next { s with
        fp := { s.fp with frame := some forwarded }
        link := { s.link with
          line := drain (s.link.line ++ rest.map Sym.out)
          errorRun := errorRunAfter s.link.errorRun rest } })

/-! ### The image -/

/-- R39: an OUT entry within the image whose last covered byte has passed gives its channel instance the value of
the bytes it covers; an error symbol counts as 0x00 (entry 11). -/
def Obligations.OutCapturePlacesValue : Prop :=
  ∀ (f : Frame) (row : Fin 32) (L : Nat) (s : State), s.passing f → f.processed = true →
    f.header = .good .process L →
    let r := (s.banks.bank f.bound).slot[row]
    let p := s.store.framePending
    let v := fun k => Sym.value (f.arrived.getD (48 + r.offset + k) .error)
    let captures := fun width q =>
      r.offset + width ≤ L → 48 + r.offset + width ≤ f.arrived.length →
      exec (.outCapture row) s = .next { s with store := { s.store with framePending := q } }
    (r.b0 = 1 → captures 3 { p with dout := some (v 2 ++ v 1 ++ v 0) }) ∧
    (∀ n : Unit4, r.b0 = 2 → r.b1 = BitVec.ofNat 8 n.val →
      captures 4 { p with pgset := p.pgset.set n (some ⟨v 1 ++ v 0, v 3 ++ v 2⟩) }) ∧
    (∀ n : Unit4, r.b0 = 3 → r.b1 = BitVec.ofNat 8 n.val →
      captures 1 { p with ccctl := p.ccctl.set n (some (v 0)) }) ∧
    (r.b0 = 4 → captures 2 { p with evack := some (v 1 ++ v 0) })

/-- R30 to R32, R40, R42: the value of an IN channel instance is taken whole when the first byte of the instance's
lowest entry within the image is about to pass. -/
def Obligations.InValueTakenWhole : Prop :=
  ∀ (f : Frame) (row : Fin 32) (L : Nat) (s : State), s.passing f → f.processed = true →
    f.header = .good .process L →
    let rows := (s.banks.bank f.bound).slot
    let r := rows[row]
    f.arrived.length = 48 + r.offset → r.offset + r.width ≤ L →
    (∀ e ∈ rows.toList, e.b0 = r.b0 → e.b1 = r.b1 → e.offset + e.width ≤ L → r.offset ≤ e.offset) →
    (∀ k ∈ f.taken, some k.chan = r.chan → k.inst ≠ r.b1) →
    let takes := fun c v => exec (.inValueTaken row) s = .next { s with fp := { s.fp with
      frame := some { f with taken := f.taken ++ [⟨c, r.b1, v⟩] } } }
    (r.b0 = 0x81 → takes .snap (bytes24 s.sampler.snapshot)) ∧
    (∀ n : Unit4, r.b0 = 0x82 → r.b1 = BitVec.ofNat 8 n.val → takes .cccnt (bytes32 s.cc[n].count)) ∧
    (∀ n : Unit4, r.b0 = 0x83 → r.b1 = BitVec.ofNat 8 n.val → takes .ccstamp (bytes32 s.cc[n].stamp)) ∧
    (r.b0 = 0x84 →
      let depth := s.queue.records.length
      let placed := min r.count depth
      takes .evblk ([BitVec.ofNat 8 placed, BitVec.ofNat 8 depth]
        ++ (s.queue.records.take placed).flatMap EventRecord.bytes
        ++ List.replicate (8 * (r.count - placed)) 0)) ∧
    (r.b0 = 0x85 →
      let mode := match s.mc.mode with
        | .unaddressed => 0
        | .standby => 1
        | .running => 2
        | .fallback => 3
      let cause := match s.mc.cause with
        | .none => 0
        | .timeout => 1
        | .link => 2
        | .request => 3
      let forced := s.pins.force.toList.any Option.isSome
      takes .nstat [BitVec.ofNat 8 (mode + 16 * cause), BitVec.ofNat 8
        ((if s.banks.armed = none then 0 else 1) + (if forced then 2 else 0)
          + (if s.queue.lost = 0 then 0 else 4) + (if s.mx.slot = .idle then 0 else 8))])

/-- R37, R40, R182: an ordinary data byte of the frame in passage is forwarded; in a processed image the byte of an
IN value taken leaves in its place. -/
def Obligations.DataByteInFrame : Prop :=
  ∀ (f : Frame) (b : Byte) (s : State), s.passing f → s.link.inState = .up →
    f.headerDue [.byte b] = false → f.fieldDue [.byte b] = false → f.lastOfSegment = false →
    f.excessDue = false → f.arrived.length < 564 →
    let leaves := fun out => exec (.validSymbol (.data b)) s = .next { s with
      fp := { s.fp with frame := some { f with arrived := f.arrived ++ [.byte b] } }
      link := { s.link with line := drain (s.link.line ++ [.data out]), errorRun := 0 } }
    let i := f.arrived.length - 48
    let rows := (s.banks.bank f.bound).slot.toList
    (f.processed = false ∨ f.arrived.length < 48 ∨ (∀ L, f.header ≠ .good .process L) → leaves b) ∧
    ∀ L, f.header = .good .process L →
      (L ≤ i ∨ (∀ r ∈ rows, r.inWithin L = true → r.covers i = false) → leaves b) ∧
      ∀ r k, f.processed = true → 48 ≤ f.arrived.length → i < L →
        r ∈ rows → r.inWithin L = true → r.covers i = true →
        (∀ e ∈ rows, e.inWithin L = true → e.covers i = true → e = r) →
        k ∈ f.taken → some k.chan = r.chan → k.inst = r.b1 →
        (∀ j ∈ f.taken, some j.chan = r.chan → j.inst = r.b1 → j = k) →
        leaves (k.value.getD (i - r.offset) 0)

/-- Entry 4, the model's choice of arrival: a single symbol that completes a header, a next-address field or a segment
has the effect of that step: a data byte, a symbol error, or an idle, which is taken as a symbol error (R178). An end
delimiter is the frame end. A RESPONSE segment, which has no step of its own, is forwarded as it came (R159). -/
def Obligations.LastByteHasStepEffect : Prop :=
  ∀ (f : Frame) (s : State), s.passing f → s.link.inState = .up →
    exec (.validSymbol .endDelimiter) s = exec .frameEnd s ∧
    (∀ b,
      (f.headerDue [.byte b] = true → exec (.validSymbol (.data b)) s = exec (.frameHeader [.byte b]) s) ∧
      (f.fieldDue [.byte b] = true → exec (.validSymbol (.data b)) s = exec (.addressField [.byte b]) s) ∧
      (f.badSegmentDue [.byte b] = true → exec (.validSymbol (.data b)) s = exec (.badSegment [.byte b]) s) ∧
      (∀ body, f.lastOfSegment = true → f.arrived.drop 8 ++ [.byte b] = (emptyBytes body).map Sym.byte →
        exec (.validSymbol (.data b)) s = exec (.emptySegment body) s) ∧
      (∀ c code rq, anyRequest c = some (code, rq) → rq.payload.length = 32 → f.lastOfSegment = true →
        f.arrived.drop 8 ++ [.byte b] = (requestBytes code rq).map Sym.byte →
        exec (.validSymbol (.data b)) s = exec c s) ∧
      ∀ body, f.lastOfSegment = true →
        f.arrived.drop 8 ++ [.byte b] = (2 :: body ++ bytes16 (crc16 (2 :: body))).map Sym.byte →
        exec (.validSymbol (.data b)) s = .next { s with
          fp := { s.fp with frame := some { f with arrived := f.arrived ++ [.byte b] } }
          link := { s.link with
            line := drain (replaceTail 39 (((f.arrived.drop 8).map Sym.value).map OutSym.data) s.link.line
              ++ [.data b])
            errorRun := 0 } }) ∧
    let completes := fun c x =>
      (f.headerDue [x] = true → exec c s = exec (.frameHeader [x]) s) ∧
      (f.fieldDue [x] = true → exec c s = exec (.addressField [x]) s) ∧
      (f.lastOfSegment = true → f.badSegmentDue [x] = true ∧ exec c s = exec (.badSegment [x]) s)
    completes .symbolError .error ∧ completes (.validSymbol .plainIdle) .idle ∧
    ∀ a, completes (.validSymbol (.breakIdle a)) .idle

/-- R187: a data byte after the trailer position of a frame with a good header is forwarded; the first such byte has
the trailer position written poisoned. The 565th is one of the events that abort a frame. -/
def Obligations.ExcessByteForwarded : Prop :=
  ∀ (f : Frame) (t : FrameType) (L : Nat) (b : Byte) (s : State), s.passing f → s.link.inState = .up →
    f.header = .good t L → expectedLength t L ≤ f.arrived.length →
    exec (.validSymbol (.data b)) s = exec (.excessDataByte b) s ∧
    (f.arrived.length < 564 → exec (.excessDataByte b) s = .next { s with
      fp := { s.fp with frame := some { f with arrived := f.arrived ++ [.byte b] } }
      link := { s.link with
        line := drain ((if f.arrived.length = expectedLength t L then
          writeTrailer f.arrived.length false s.link.line else s.link.line) ++ [.data b])
        errorRun := 0 } }) ∧
    (f.arrived.length = 564 → exec (.excessDataByte b) s = exec (.frameAbort .tooLong) s)

/-! ### The frame end -/

/-- R185, R186, R187: what makes a trailer good, and what the outgoing trailer position holds after a frame end. The
line ends with the `n - 4` symbols of the frame before the position and the four in it. -/
def Obligations.TrailerJudgedAndWritten : Prop :=
  ∀ (f : Frame) (t : FrameType) (L : Nat),
    let expected := match t with
      | .process => 8 + 40 + L + 4
      | .strobe => 12
      | .address => 14
    let bytes := f.arrived.map Sym.value
    (f.trailerGood t L = true ↔
      f.arrived.length = expected ∧ f.damaged = false ∧
        bytes.drop (expected - 4) = bytes32 (crc32 (bytes.take (expected - 4)))) ∧
    ∀ (good : Bool) (before sent old : List OutSym),
      12 ≤ f.arrived.length → f.arrived.length ≤ expected →
      sent.length = f.arrived.length - 4 → old.length = 4 →
      let crc := crc32 (sent.map OutSym.byte)
      endTrailer f t L good (before ++ sent ++ old) =
        before ++ sent ++ overwrite old (bytes32 (if good then crc else ~~~crc))

/-- R183, R186, R49: a frame end that applies nothing: a frame without a header, with a bad header, with a bad
trailer, a STROBE frame, a PROCESS frame that is not processed, an ADDRESS frame that gave no address. -/
def Obligations.FrameEndThatAppliesNothing : Prop :=
  ∀ (f : Frame) (s : State), s.passing f → s.link.inState = .up →
    let ends := fun stats store line => exec .frameEnd s = .next { s with
      fp := { s.fp with frame := none }, stats := stats, store := store
      link := { s.link with line := drain (line ++ [.endDelimiter]), errorRun := 0 } }
    let emptied := { s.store with framePending := FramePending.empty }
    (f.header = .awaited →
      ends { s.stats with headerErrors := satInc s.stats.headerErrors } emptied s.link.line) ∧
    (f.header = .bad → ends s.stats emptied s.link.line) ∧
    ∀ t L, f.header = .good t L →
      let good := f.trailerGood t L
      (good = false ∨ t = .strobe ∨ t = .process ∧ f.processed = false ∨ t = .address ∧ f.provisional = none) →
      ends
        (if good then { s.stats with goodFrames := satInc s.stats.goodFrames }
          else { s.stats with crcBad := satInc s.stats.crcBad })
        (if t = .process then emptied else s.store)
        (endTrailer f t L good s.link.line)

/-- R44 to R48, R111, R137, R143: the end of a good processed frame. Where the owners are the deciding sources, a pin is
marked exactly when its owner changes (R61, R70, R72). -/
def Obligations.GoodProcessedEndApplies : Prop :=
  ∀ (f : Frame) (L : Nat) (s : State), s.passing f → s.link.inState = .up →
    f.header = .good .process L → f.processed = true → f.trailerGood .process L = true →
    let p := s.store.framePending
    let policy := (s.banks.bank f.bound).policy
    let hasOutput := ¬ (p.dout = none ∧ ∀ n : Unit4, p.pgset[n] = none)
    let fills := policy.b3 = 1 ∧ hasOutput
    let resumes := s.mc.mode = .fallback ∧ policy.b4 = 1 ∧ (s.mc.cause = .timeout ∨ s.mc.cause = .link)
    ∃ t, exec .frameEnd s = .next t ∧
      t.store.framePending = FramePending.empty ∧
      t.store.dout = (if policy.b3 = 1 then s.store.dout else p.dout.getD s.store.dout) ∧
      t.store.strobePending = (if fills then some ⟨p.dout, p.pgset⟩ else s.store.strobePending) ∧
      (∀ n : Unit4,
        t.store.pgset[n] = (if policy.b3 = 1 then s.store.pgset[n] else p.pgset[n].getD s.store.pgset[n]) ∧
        t.pg[n] = (match p.pgset[n] with
          | some v => if policy.b3 = 1 then s.pg[n] else s.pg[n].take v
          | none => s.pg[n]) ∧
        t.store.toggles[n] = (match p.ccctl[n] with
          | some b => b.getLsbD 0
          | none => s.store.toggles[n]) ∧
        t.cc[n] = match p.ccctl[n] with
          | some b => if b.getLsbD 0 = s.store.toggles[n] then s.cc[n] else ⟨0, 0, none⟩
          | none => s.cc[n]) ∧
      t.queue = (match p.evack with
        | some a => (s.queue.ack a).1
        | none => s.queue) ∧
      t.mc = (if s.mc.mode = .running then { s.mc with timer := some (s.policy.timeout * 100) }
        else if resumes then { s.mc with mode := .running, timer := some (s.policy.timeout * 100) }
        else s.mc) ∧
      (s.OwnersDecided → DecidedAnew s t) ∧
      t = { s with
        store := t.store, pg := t.pg, cc := t.cc, queue := t.queue, mc := t.mc
        pins := { s.pins with owner := t.pins.owner }
        sampler := { s.sampler with settle := t.sampler.settle }
        fp := { s.fp with frame := none }
        stats := { s.stats with
          goodFrames := satInc s.stats.goodFrames
          strobeOverruns :=
            if fills ∧ s.store.strobePending.isSome then satInc s.stats.strobeOverruns else s.stats.strobeOverruns
          badAcks := match p.evack with
            | some a => if (s.queue.ack a).2 then satInc s.stats.badAcks else s.stats.badAcks
            | none => s.stats.badAcks }
        link := { s.link with
          line := drain (endTrailer f .process L true s.link.line ++ [.endDelimiter]), errorRun := 0 } }

/-- R134: the good end of an ADDRESS frame that gave a provisional address. -/
def Obligations.AddressEndTakesAddress : Prop :=
  ∀ (f : Frame) (L : Nat) (a : Byte) (s : State), s.passing f → s.link.inState = .up →
    f.header = .good .address L → f.provisional = some a → f.trailerGood .address L = true →
    exec .frameEnd s = .next { s with
      mc := { s.mc with address := a, mode := .standby }
      fp := { s.fp with frame := none }
      stats := { s.stats with goodFrames := satInc s.stats.goodFrames }
      link := { s.link with
        line := drain (endTrailer f .address L true s.link.line ++ [.endDelimiter]), errorRun := 0 } }

/-- R188, R49, R183: the four aborts. The frame-pending tier is emptied, the abort delimiter is put on the line, the
frame is counted; a frame cut by an abort delimiter before its header is judged counts as a header error too. The
model's readings: a frame that a link-down or a start delimiter cuts before its header is judged is no header error
(entry 14, where R189 says "a bad header or none"), at a link-down the symbols of the error run are taken off the line
(entry 6), a 565th data byte marks the rest of the frame (entry 13), and FRAME_ABORT with cause linkDown does the abort
alone (entry 24). -/
def Obligations.FrameAborts : Prop :=
  ∀ (f : Frame) (s : State), s.passing f → s.link.inState = .up →
    let aborts := fun cause headerErrors (link : LinkInterface) =>
      exec (.frameAbort cause) s = .next { s with
        fp := { s.fp with frame := none }
        stats := { s.stats with aborted := satInc s.stats.aborted, headerErrors := headerErrors }
        store := { s.store with framePending := FramePending.empty }
        link := { link with line := drain (link.line ++ [.abortDelimiter]) } }
    aborts .linkDown s.stats.headerErrors
      { s.link with line := replaceTail (min s.link.errorRun f.arrived.length) [] s.link.line } ∧
    aborts .abortDelimiter
      (if f.header = .awaited then satInc s.stats.headerErrors else s.stats.headerErrors)
      { s.link with errorRun := 0 } ∧
    exec (.validSymbol .abortDelimiter) s = exec (.frameAbort .abortDelimiter) s ∧
    aborts .startDelimiter s.stats.headerErrors { s.link with errorRun := 0, breakMark := none } ∧
    (f.arrived.length = 564 →
      aborts .tooLong s.stats.headerErrors { s.link with
        errorRun := 0
        discarding := true
        line := match f.header with
          | .good t L =>
            if expectedLength t L = 564 then writeTrailer 564 false s.link.line else s.link.line
          | _ => s.link.line })

/-! ### Segments and requests -/

/-- R151: what leaves when the node answers in a segment that completes, whose 40 bytes these are: kind RESPONSE, the
node's address, the response's fields, zeros beyond the length, a fresh CRC-16. -/
def Obligations.ResponseReplacesSegment : Prop :=
  ∀ (f : Frame) (bytes : List Byte) (r : Response) (address : Byte) (s : State),
    bytes.length = 40 → 8 ≤ f.arrived.length → f.arrived.length < 48 → r.payload.length ≤ 32 →
    let k := f.arrived.length - 8
    let body := [2, address, r.tag, r.status, r.flags, BitVec.ofNat 8 r.payload.length] ++ r.payload
      ++ List.replicate (32 - r.payload.length) 0
    let sent := (body ++ bytes16 (crc16 body)).map OutSym.data
    sent.length = 40 ∧
    s.answerSegment f bytes r address = { s with
      fp := { s.fp with frame := some { f with arrived := f.arrived ++ (bytes.drop k).map Sym.byte } }
      link := { s.link with
        line := drain (s.link.line.take (s.link.line.length - k) ++ sent.take k ++ sent.drop k)
        errorRun := 0 } }

/-- R153, R149: a request that is not to this node, and any request at a node without an address or in a frame with a
bad header, is forwarded as it came. -/
def Obligations.RequestToOthersForwarded : Prop :=
  ∀ (f : Frame) (c : Instr) (code : Byte) (rq : Request) (s : State),
    anyRequest c = some (code, rq) → s.passing f → f.segmentDue (requestBytes code rq) = true →
    (rq.address ≠ s.mc.address ∨ s.mc.address = 0 ∨ f.header = .bad) →
    exec c s = .next (s.forwardSegment f (requestBytes code rq)) ∧
    s.forwardSegment f (requestBytes code rq) = { s with
      fp := { s.fp with frame := some { f with
        arrived := f.arrived ++ ((requestBytes code rq).drop (f.arrived.length - 8)).map Sym.byte } }
      link := { s.link with
        line := drain (replaceTail (f.arrived.length - 8)
          (((requestBytes code rq).map OutSym.data).take (f.arrived.length - 8)) s.link.line
            ++ ((requestBytes code rq).map OutSym.data).drop (f.arrived.length - 8))
        errorRun := 0 } }

/-- R159, R150: an EMPTY segment collects a pending result and is forwarded otherwise; a bad segment is counted at an
addressed node and forwarded as it arrived. -/
def Obligations.EmptyAndBadSegments : Prop :=
  (∀ (f : Frame) (body : List Byte) (s : State), s.passing f → f.segmentDue (emptyBytes body) = true →
    (∀ r, s.mx.slot = .answering r → s.handsOver f = true →
      exec (.emptySegment body) s = .next
        (State.answerSegment f (emptyBytes body) r s.mc.address { s with mx := { s.mx with slot := .idle } })) ∧
    ((∀ r, s.mx.slot ≠ .answering r) ∨ s.handsOver f = false →
      exec (.emptySegment body) s = .next (s.forwardSegment f (emptyBytes body)))) ∧
  ∀ (f : Frame) (rest : List Sym) (s : State), s.passing f → f.badSegmentDue rest = true →
    exec (.badSegment rest) s = .next { s with
      stats :=
        if s.handsOver f then { s.stats with headerErrors := satInc s.stats.headerErrors } else s.stats
      fp := { s.fp with frame := some { f with
        arrived := f.arrived ++ rest, damaged := f.damaged || rest.any Sym.damages } }
      link := { s.link with
        line := drain (s.link.line ++ rest.map Sym.out), errorRun := errorRunAfter s.link.errorRun rest } }

/-- R154, R155, R169, R170, R74, R194: read-only requests and unknown codes are answered whatever the slot. READ OWNERS
gives three bytes each of driven and of reported pins, bit n for Pn. -/
def Obligations.AnsweredWhateverTheSlot : Prop :=
  ∀ (f : Frame) (rq : Request) (s : State),
    let modeAndCause : Byte := BitVec.ofNat 8
      ((match s.mc.mode with
        | .unaddressed => 0
        | .standby => 1
        | .running => 2
        | .fallback => 3) + 16 * match s.mc.cause with
        | .none => 0
        | .timeout => 1
        | .link => 2
        | .request => 3)
    let resetCause : Byte := BitVec.ofNat 8
      ((if s.mc.resetCause.power then 1 else 0) + (if s.mc.resetCause.pin then 2 else 0)
        + (if s.mc.resetCause.soft then 4 else 0))
    let ownerCode : Owner → Byte := fun
      | .idle => 0x00
      | .direct => 0x01
      | .pulse n => BitVec.ofNat 8 (2 + n.val)
      | .force => 0xF0
      | .fallback => 0xF1
    let answered := fun c code status payload =>
      s.meets f code rq → exec c s = .next (State.answerSegment f (requestBytes code rq)
        ⟨rq.tag, code, status, 0, payload⟩ s.mc.address
        { s with stats := { s.stats with consumed := satInc s.stats.consumed } })
    (rq.length ≠ 0 →
      answered (.identify rq) 0x01 0x81 [] ∧ answered (.readStatus rq) 0x02 0x81 [] ∧
      answered (.readOwners rq) 0x03 0x81 []) ∧
    (rq.length = 0 → answered (.identify rq) 0x01 0x00
      [0xEC, 0x18, 0x24, 0x03, s.mc.address, modeAndCause, s.banks.gen, s.banks.armed.getD 0,
        (match s.mx.slot with
          | .idle => 0
          | .working _ _ => 1
          | .answering _ => 2),
        resetCause, BitVec.ofNat 8 s.queue.records.length, s.queue.lost,
        BitVec.ofNat 8 (s.pins.force.toList.countP Option.isSome), s.fp.position, 0, 0]) ∧
    (rq.length = 0 → answered (.readStatus rq) 0x02 0x00
      ([s.stats.goodFrames, s.stats.crcBad, s.stats.headerErrors, s.stats.aborted, s.stats.linkDown,
        s.stats.genMismatch, s.stats.shortFrames, s.stats.strobeOverruns, s.stats.strobesApplied,
        s.stats.consumed, s.stats.left, s.stats.displaced, s.stats.replays, s.stats.badAcks,
        s.stats.maskedEdges, s.stats.fallbackEntries].flatMap bytes16)) ∧
    (rq.length = 0 → ∃ driven reported : PinWord,
      answered (.readOwners rq) 0x03 0x00
        (s.pins.owner.toList.map ownerCode ++ bytes24 driven ++ bytes24 reported) ∧
      ∀ n : Pin,
        driven.getLsbD n.val = (s.pinState n == .low || s.pinState n == .high) ∧
        reported.getLsbD n.val = (s.pinState n == .high || s.pinState n == .pullup)) ∧
    ∀ code, code ∉ knownCodes → answered (.badOpcode code rq) code 0x80 []

/-- R157, R158, R162: a replayable or long request is left while the slot is WORKING, is displaced by the pending result
while it is ANSWERING, and in an IDLE slot is replayed, not executed, when the last-answered record answers it. -/
def Obligations.RequestLeftDisplacedOrReplayed : Prop :=
  ∀ (f : Frame) (c : Instr) (code : Byte) (rq : Request) (s : State),
    replayableOrLong c = some (code, rq) → s.meets f code rq →
    (∀ tag op, s.mx.slot = .working tag op →
      exec c s = .next (State.forwardSegment f (requestBytes code rq)
        { s with stats := { s.stats with left := satInc s.stats.left } })) ∧
    (∀ r, s.mx.slot = .answering r →
      exec c s = .next (State.answerSegment f (requestBytes code rq) { r with flags := r.flags ||| 0x02 }
        s.mc.address { s with
          mx := { s.mx with slot := .idle }
          stats := { s.stats with displaced := satInc s.stats.displaced } })) ∧
    ∀ r, s.mx.slot = .idle → s.mx.last = some r → r.tag = rq.tag → r.code = code →
      exec c s = .next (State.answerSegment f (requestBytes code rq) { r with flags := r.flags ||| 0x01 }
        s.mc.address { s with stats := { s.stats with
          consumed := satInc s.stats.consumed, replays := satInc s.stats.replays } })

/-- R164: OPEN VIEW. -/
def Obligations.OpenViewSetsView : Prop :=
  ∀ (f : Frame) (rq : Request) (s : State), s.meetsIdle f 0x10 rq →
    let b := requestByte rq
    let answers := fun status view =>
      exec (.openView rq) s = .next (State.recordAndAnswer f 0x10 rq (plainResponse rq 0x10 status 0) s.mc.address
        { s with
          mx := { s.mx with view := view }
          stats := { s.stats with consumed := satInc s.stats.consumed } })
    (rq.length ≠ 3 → answers 0x81 s.mx.view) ∧
    (rq.length = 3 → 1 < (b 0).toNat ∨ 3 < (b 1).toNat → answers 0x82 s.mx.view) ∧
    ∀ role table size, rq.length = 3 →
      (b 0 = 0 ∧ role = .active ∨ b 0 = 1 ∧ role = .staged) →
      (b 1 = 0 ∧ table = .slot ∧ size = 32 ∨ b 1 = 1 ∧ table = .pin ∧ size = 24 ∨
        b 1 = 2 ∧ table = .func ∧ size = 8 ∨ b 1 = 3 ∧ table = .policy ∧ size = 1) →
      (size ≤ (b 2).toNat → answers 0x82 s.mx.view) ∧
      ((b 2).toNat < size → answers 0x00 ⟨role, table, (b 2).toNat⟩)

/-- R165, R15: READ ROWS. -/
def Obligations.ReadRowsReadsView : Prop :=
  ∀ (f : Frame) (rq : Request) (s : State), s.meetsIdle f 0x11 rq →
    let n := (requestByte rq 0).toNat
    let v := s.mx.view
    let bank := match v.role with
      | .active => s.banks.activeBank
      | .staged => s.banks.stagedBank
    let answers := fun status payload view =>
      exec (.readRows rq) s = .next (State.recordAndAnswer f 0x11 rq ⟨rq.tag, 0x11, status, 0, payload⟩
        s.mc.address { s with
          mx := { s.mx with view := view }
          stats := { s.stats with consumed := satInc s.stats.consumed } })
    (rq.length ≠ 1 → answers 0x81 [] v) ∧
    (rq.length = 1 → n = 0 ∨ 4 < n → answers 0x82 [] v) ∧
    (rq.length = 1 → 1 ≤ n → n ≤ 4 → v.table.size < v.next + n → answers 0x82 [] v) ∧
    (rq.length = 1 → 1 ≤ n → n ≤ 4 → v.next + n ≤ v.table.size →
      answers 0x00 ((List.range n).flatMap fun k => (bank.row v.table (v.next + k)).bytes)
        { v with next := v.next + n })

/-- R166, R14: WRITE ROWS. The rows stored are given by reading them back. -/
def Obligations.WriteRowsStoresInStaged : Prop :=
  ∀ (f : Frame) (rq : Request) (s : State), s.meetsIdle f 0x12 rq →
    let size := rq.length.toNat
    let n := size / 8
    let v := s.mx.view
    let whole := size = 8 ∨ size = 16 ∨ size = 24 ∨ size = 32
    let answers := fun status flags banks view =>
      exec (.writeRows rq) s = .next (State.recordAndAnswer f 0x12 rq (plainResponse rq 0x12 status flags)
        s.mc.address { s with
          banks := banks
          mx := { s.mx with view := view }
          stats := { s.stats with consumed := satInc s.stats.consumed } })
    (v.role = .active → answers 0x83 0 s.banks v) ∧
    (v.role = .staged → ¬ whole → answers 0x81 0 s.banks v) ∧
    (v.role = .staged → whole → v.table.size < v.next + n → answers 0x82 0 s.banks v) ∧
    (v.role = .staged → whole → v.next + n ≤ v.table.size →
      ∃ banks : BankUnit,
        answers 0x00 (if s.banks.armed = none then 0 else 0x04) banks { v with next := v.next + n } ∧
        banks.armed = none ∧ banks.active = s.banks.active ∧ banks.gen = s.banks.gen ∧
        banks.longOp = s.banks.longOp ∧ banks.activeBank = s.banks.activeBank ∧
        (∀ k < n, (banks.stagedBank.row v.table (v.next + k)).bytes =
          (List.range 8).map fun i => requestByte rq (8 * k + i)) ∧
        ∀ table i, ¬ (table = v.table ∧ v.next ≤ i ∧ i < v.next + n) →
          banks.stagedBank.row table i = s.banks.stagedBank.row table i)

/-- R17, R19, R156, R167: CLONE and ARM, refused at once or started. -/
def Obligations.LongRequestsStartOrAreRefused : Prop :=
  ∀ (f : Frame) (rq : Request) (s : State),
    let counted := { s with stats := { s.stats with consumed := satInc s.stats.consumed } }
    let refused := fun c code status =>
      s.meetsIdle f code rq → exec c s = .next
        (State.recordAndAnswer f code rq (plainResponse rq code status 0) s.mc.address counted)
    let started := fun c code op =>
      s.meetsIdle f code rq → exec c s = .next (State.answerSegment f (requestBytes code rq)
        (plainResponse rq code 0x01 (if s.banks.armed = none then 0 else 0x04)) s.mc.address
        { counted with
          banks := { s.banks with armed := none, longOp := op }
          mx := { s.mx with slot := .working rq.tag code } })
    let g := requestByte rq 0
    (rq.length ≠ 0 → refused (.clone rq) 0x20 0x81) ∧
    (rq.length = 0 → started (.clone rq) 0x20 .cloning) ∧
    (rq.length ≠ 1 → refused (.arm rq) 0x21 0x81) ∧
    (rq.length = 1 → g = 0 ∨ g = s.banks.gen → refused (.arm rq) 0x21 0x87) ∧
    (rq.length = 1 → g ≠ 0 → g ≠ s.banks.gen → started (.arm rq) 0x21 (.validating g))

/-- R16, R145, R147, R171: DISARM, RESTART, CLEAR CAUSE and CLEAR STATS. RESTART sets restart pending with the number
of frame ends on the line, this frame's own added (entry 16). -/
def Obligations.ShortRequestsExecute : Prop :=
  ∀ (f : Frame) (rq : Request) (s : State),
    let counted := { s with stats := { s.stats with consumed := satInc s.stats.consumed } }
    let answers := fun c code status flags u =>
      s.meetsIdle f code rq → exec c s = .next
        (State.recordAndAnswer f code rq (plainResponse rq code status flags) s.mc.address u)
    (rq.length ≠ 0 →
      answers (.disarm rq) 0x22 0x81 0 counted ∧ answers (.restart rq) 0x43 0x81 0 counted ∧
      answers (.clearStats rq) 0x50 0x81 0 counted ∧ answers (.clearCause rq) 0x51 0x81 0 counted) ∧
    (rq.length = 0 →
      answers (.disarm rq) 0x22 0x00 (if s.banks.armed = none then 0 else 0x04)
        { counted with banks := { s.banks with armed := none } } ∧
      (s.mc.restart = none → answers (.restart rq) 0x43 0x00 0 { counted with
        mc := { s.mc with restart := some (s.link.line.countP OutSym.isEnding + 1) } }) ∧
      (s.mc.restart ≠ none → answers (.restart rq) 0x43 0x00 0 counted) ∧
      answers (.clearStats rq) 0x50 0x00 0
        { s with stats := ⟨0, 0, 0, 0, 0, 0, 0, 0, 0, 0, 0, 0, 0, 0, 0, 0⟩ } ∧
      answers (.clearCause rq) 0x51 0x00 0 { counted with
        mc := { s.mc with resetCause := ⟨false, false, false⟩ } })

/-- R56 to R59, R61, R66, Table 3-1: the deciding source of a pin, and the pin state that each current owner gives. A
pulse generator is active while it is RUNNING (R57, Table 6-1); its output stands at the active level while its output
mark is set (R112, entry 10). -/
def Obligations.PinsFollowPrecedence : Prop :=
  ∀ (s : State) (n : Pin),
    let r := s.banks.activeBank.pin[n]
    let list := [r.b0, r.b1, r.b2]
    let claims := fun (c : Byte) (o : Owner) => c = 1 ∧ o = .direct ∨
      ∃ k : Unit4, c = BitVec.ofNat 8 (2 + k.val) ∧ o = .pulse k ∧ ∃ p, s.pg[k].state = .running p
    let inIdle := fun st => r.b3 = 0 ∧ st = .highz ∨ r.b3 = 1 ∧ st = .pullup ∨ r.b3 = 2 ∧ st = PinState.low ∨
      r.b3 = 3 ∧ st = .high
    (s.pins.force[n] ≠ none → s.deciding n = .force) ∧
    (s.pins.force[n] = none → s.mc.mode = .fallback → s.deciding n = .fallback) ∧
    (s.pins.force[n] = none → s.mc.mode ≠ .fallback →
      (∀ before c after o, list = before ++ c :: after → claims c o → (∀ d ∈ before, ∀ q, ¬ claims d q) →
        s.deciding n = o) ∧
      ((∀ d ∈ list, ∀ q, ¬ claims d q) → s.deciding n = .idle)) ∧
    (s.held = false →
      (s.pins.owner[n] = .force → ∀ st, s.pins.force[n] = some st → s.pinState n = match st with
        | .highz => .highz
        | .low => .low
        | .high => .high) ∧
      (s.pins.owner[n] = .fallback →
        (r.b4 = 0 → ∀ st, s.pins.held[n] = some st → s.pinState n = st) ∧
        (r.b4 = 1 → ∀ st, inIdle st → s.pinState n = st) ∧
        (r.b4 = 2 → s.pinState n = .low) ∧
        (r.b4 = 3 → s.pinState n = .high)) ∧
      (s.pins.owner[n] = .direct → s.pinState n = if s.store.dout.getLsbD n.val then .high else .low) ∧
      (∀ k : Unit4, s.pins.owner[n] = .pulse k → s.pinState n =
        if (s.banks.activeBank.pgRow k).b1 = 1 ↔ s.pg[k].outActive = true then .high else .low) ∧
      (s.pins.owner[n] = .idle → ∀ st, inIdle st → s.pinState n = st))

/-- R63, R64: FORCE PIN and RELEASE PIN, with the owners and settle marks that follow (R58, R70, R72). -/
def Obligations.ForceRequestsExecute : Prop :=
  ∀ (f : Frame) (rq : Request) (s : State),
    let b := requestByte rq
    let counted := { s with stats := { s.stats with consumed := satInc s.stats.consumed } }
    let refused := fun c code status =>
      s.meetsIdle f code rq → exec c s = .next
        (State.recordAndAnswer f code rq (plainResponse rq code status 0) s.mc.address counted)
    let permitted := s.mc.mode = .standby ∨ s.policy.b5 = 1
    let known := b 1 = 0 ∨ b 1 = 2 ∨ b 1 = 3
    let executes := fun c code (force : Pin → Option ForceState) =>
      s.meetsIdle f code rq → ∃ u,
        exec c s = .next (State.recordAndAnswer f code rq (plainResponse rq code 0x00 0) s.mc.address u) ∧
        (∀ n : Pin, u.pins.force[n] = force n) ∧ DecidedAnew s u ∧
        u = { counted with
          pins := { s.pins with force := u.pins.force, owner := u.pins.owner }
          sampler := { s.sampler with settle := u.sampler.settle } }
    (rq.length ≠ 2 → refused (.forcePin rq) 0x30 0x81) ∧
    (rq.length = 2 → 24 ≤ (b 0).toNat ∨ ¬ known → refused (.forcePin rq) 0x30 0x82) ∧
    (rq.length = 2 → (b 0).toNat < 24 → known → ¬ permitted → refused (.forcePin rq) 0x30 0x85) ∧
    (∀ p : Pin, rq.length = 2 → (b 0).toNat = p.val → known → permitted →
      executes (.forcePin rq) 0x30 fun n =>
        if n = p then some (if b 1 = 0 then .highz else if b 1 = 2 then .low else .high)
        else s.pins.force[n]) ∧
    (rq.length ≠ 1 → refused (.releasePin rq) 0x31 0x81) ∧
    (rq.length = 1 → 24 ≤ (b 0).toNat → b 0 ≠ 255 → refused (.releasePin rq) 0x31 0x82) ∧
    (∀ p : Pin, rq.length = 1 → (b 0).toNat = p.val →
      executes (.releasePin rq) 0x31 fun n => if n = p then none else s.pins.force[n]) ∧
    (rq.length = 1 → b 0 = 255 → executes (.releasePin rq) 0x31 fun _ => none)

/-- R141, R142, R144: ENTER FALLBACK, RESUME and RELEASE ADDRESS by mode. -/
def Obligations.ModeRequestsExecute : Prop :=
  ∀ (f : Frame) (rq : Request) (s : State),
    let counted := { s with stats := { s.stats with consumed := satInc s.stats.consumed } }
    let answers := fun c code status flags u =>
      s.meetsIdle f code rq → exec c s = .next
        (State.recordAndAnswer f code rq (plainResponse rq code status flags) s.mc.address u)
    let movesPins := fun u => { counted with
      mc := u.mc
      stats := { counted.stats with fallbackEntries := u.stats.fallbackEntries }
      pins := u.pins
      sampler := { s.sampler with settle := u.sampler.settle } }
    (rq.length ≠ 0 →
      answers (.enterFallback rq) 0x40 0x81 0 counted ∧ answers (.resume rq) 0x41 0x81 0 counted ∧
      answers (.releaseAddress rq) 0x42 0x81 0 counted) ∧
    (rq.length = 0 →
      (s.mc.mode = .running →
        ∃ u, answers (.enterFallback rq) 0x40 0x00 0 u ∧ EntersFallback .request s u ∧ u = movesPins u) ∧
      (s.mc.mode = .fallback →
        answers (.enterFallback rq) 0x40 0x00 0 { counted with mc := { s.mc with cause := .request } } ∧
        ∃ u, answers (.resume rq) 0x41 0x00 0 u ∧ LeavesFallback s u ∧
          u.stats.fallbackEntries = s.stats.fallbackEntries ∧ u = movesPins u) ∧
      (s.mc.mode ≠ .running → s.mc.mode ≠ .fallback → answers (.enterFallback rq) 0x40 0x84 0 counted) ∧
      (s.mc.mode ≠ .fallback → answers (.resume rq) 0x41 0x84 0 counted) ∧
      (s.mc.mode ≠ .standby → answers (.releaseAddress rq) 0x42 0x84 0 counted) ∧
      (s.mc.mode = .standby →
        ∃ u, answers (.releaseAddress rq) 0x42 0x00 (if s.banks.armed = none then 0 else 0x04) u ∧
          (∀ n : Pin, u.pins.force[n] = none) ∧ DecidedAnew s u ∧
          u = { counted with
            mc := { s.mc with address := 0, mode := .unaddressed }
            banks := { s.banks with armed := none }
            pins := { s.pins with force := u.pins.force, owner := u.pins.owner }
            sampler := { s.sampler with settle := u.sampler.settle } }))

/-! ### Validation and the long operations -/

/-- R18, R20, R160, R168: the completion of a CLONE and of an ARM. -/
def Obligations.LongOperationsComplete : Prop :=
  ∀ (tag code : Byte) (s : State), s.held = false → s.mx.slot = .working tag code →
    let completes := fun c banks status payload =>
      let result : Response := ⟨tag, code, status, 0, payload⟩
      exec c s = .next { s with
        banks := banks, mx := { s.mx with slot := .answering result, last := some result } }
    (s.banks.longOp = .cloning → ∃ banks : BankUnit, completes .cloneComplete banks 0x00 [] ∧
      banks.stagedBank = s.banks.activeBank ∧ banks.activeBank = s.banks.activeBank ∧
      banks.active = s.banks.active ∧ banks.gen = s.banks.gen ∧ banks.armed = s.banks.armed ∧
      banks.longOp = .idle) ∧
    ∀ g, s.banks.longOp = .validating g →
      (validate s.banks.stagedBank = none →
        completes .validationComplete { s.banks with armed := some g, longOp := .idle } 0x00 [g]) ∧
      ∀ i, validate s.banks.stagedBank = some i →
        completes .validationComplete { s.banks with armed := none, longOp := .idle } 0x86
          [i.table.code, BitVec.ofNat 8 i.row, i.reason.code]

/-- R21, R22: the policy row and the function rows; they come before the other tables (R20). -/
def Obligations.PolicyAndFunctionRowsValidated : Prop :=
  ∀ b : Bank,
    let p := b.policy
    let policyFails := (p.b0 = 0 ∧ p.b1 = 0) ∨ p.b2 = 0 ∨ 1 < p.b3.toNat ∨ 1 < p.b4.toNat ∨ 1 < p.b5.toNat ∨
      p.b6 ≠ 0 ∨ p.b7 ≠ 0
    let rowFails := fun i : Fin 8 =>
      let r := b.func[i]
      1 < r.b0.toNat ∨ (i.val ≤ 3 ∧ 1 < r.b1.toNat) ∨ (4 ≤ i.val ∧ 3 < r.b1.toNat) ∨
        r.b2 ≠ 0 ∨ r.b3 ≠ 0 ∨ r.b4 ≠ 0 ∨ r.b5 ≠ 0 ∨ r.b6 ≠ 0 ∨ r.b7 ≠ 0
    (validate b = some ⟨.policy, 0, .badValue⟩ ↔ policyFails) ∧
    ∀ i : Fin 8, validate b = some ⟨.func, i.val, .badValue⟩ ↔
      ¬ policyFails ∧ rowFails i ∧ ∀ j : Fin 8, j < i → ¬ rowFails j

/-- R20, R23, R24: the pin rows, the placement of the units and the slot rows: which failure is reported, and that a
bank without any failure passes, and no other. -/
def Obligations.PinAndSlotRowsValidated : Prop :=
  ∀ b : Bank,
    let early := b.PolicyFails ∨ ∃ i, b.FuncFails i
    let pinsFail := ∃ n w, b.PinFails n w
    let unplaced := ∃ u, b.Unplaced u
    let slotsFail := ∃ i w, b.SlotFails i w
    (validate b = none ↔ ¬ early ∧ ¬ pinsFail ∧ ¬ unplaced ∧ ¬ slotsFail) ∧
    (∀ (n : Pin) (w : Reason), validate b = some ⟨.pin, n.val, w⟩ ↔
      ¬ early ∧ b.PinFails n w ∧ ∀ m < n, ∀ v, ¬ b.PinFails m v) ∧
    (∀ u : Fin 8, validate b = some ⟨.func, u.val, .unplaced⟩ ↔
      ¬ early ∧ ¬ pinsFail ∧ b.Unplaced u ∧ ∀ v < u, ¬ b.Unplaced v) ∧
    ∀ (i : Fin 32) (w : Reason), validate b = some ⟨.slot, i.val, w⟩ ↔
      ¬ early ∧ ¬ pinsFail ∧ ¬ unplaced ∧ b.SlotFails i w ∧ ∀ j < i, ∀ v, ¬ b.SlotFails j v

/-! ### Time -/

/-- R77, R79, R112, R114, R121, R137: a tick, a period start and the end of a pulse. The tick is judged against the
divisor as it stands (R78), and without a tick that takes a sample none is taken. The phase of a unit whose period start
is due stands at its period until the step is given, and a due sample waits for its step (entry 10). An increment at
the instant of a switch leaves a unit that restarted there at phase 0 (entry 23). -/
def Obligations.TicksDriveTheTimebase : Prop :=
  ∀ s : State, s.held = false →
    let divisor := if s.banks.gen = 0 then 10 else s.policy.b2.toNat
    let samples := divisor ≤ s.sampler.phase + 1
    (∀ atSwitch, exec (.tickIncrement atSwitch) s = .next { s with
      sampler := { s.sampler with
        tick := s.sampler.tick + 1
        phase := if samples then 0 else s.sampler.phase + 1
        due := if samples then true else s.sampler.due }
      mc := { s.mc with timer := match s.mc.timer with
        | none => none
        | some k => some (k - 1) }
      pg := Vector.ofFn fun n => match s.pg[n].state with
        | .running p =>
          { s.pg[n] with
            state := .running
              (if atSwitch = true ∧ s.pg[n].restarted = true then p
              else if p < s.pg[n].period.toNat then p + 1 else s.pg[n].period.toNat)
            restarted := false }
        | _ => s.pg[n] }) ∧
    (s.sampler.due = false → ∀ field, exec (.sample field) s = .next s) ∧
    ∀ (n : Unit4) (p : Nat), s.pg[n].state = .running p →
      (s.pg[n].period.toNat ≤ p →
        exec (.periodStart n) s = .next { s with pg := s.pg.set n { s.pg[n] with
          state := .running 0, period := s.pg[n].nextPeriod, width := s.pg[n].nextWidth
          outActive := s.pg[n].nextWidth != 0, restarted := false } }) ∧
      (s.pg[n].width.toNat ≤ p → p < s.pg[n].period.toNat →
        exec (.widthReached n) s = .next { s with pg := s.pg.set n { s.pg[n] with outActive := false } })

/-- R79 to R88: a sample, at the tick that takes it. What the field circuit does at each pad is an operand (entry 8); the
reading of a HIGHZ pin left open is a free value (entry 7). -/
def Obligations.SampleDebouncesAndDelivers : Prop :=
  ∀ (field : List PadField) (s : State), s.held = false → s.sampler.due = true →
    let raw := fun n : Pin => match field.getD n.val .floating, s.pinState n with
      | .overcomes high, _ => high
      | _, .low => false
      | _, .high => true
      | .level high, _ => high
      | .floating, .pullup => true
      | .floating, .highz => Config.openReading s.freeCount n.val
    let debounce := fun n : Pin => if s.banks.gen = 0 then 0 else (s.pinRow n).b5.toNat
    let accepts := fun n : Pin => raw n != s.sampler.level.getLsbD n.val && debounce n + 1 ≤ s.sampler.run[n] + 1
    let delivered := (List.finRange 24).filter fun n => accepts n && s.sampler.settle[n] == 0
    ∃ t, exec (.sample field) s = .next t ∧
      (∀ n : Pin,
        t.sampler.level.getLsbD n.val = (if accepts n then raw n else s.sampler.level.getLsbD n.val) ∧
        t.sampler.run[n] =
          (if raw n = s.sampler.level.getLsbD n.val ∨ accepts n = true then 0 else s.sampler.run[n] + 1) ∧
        t.sampler.settle[n] = s.sampler.settle[n] - 1) ∧
      t.stats.maskedEdges = satAdd s.stats.maskedEdges
        ((List.finRange 24).countP fun n => accepts n && s.sampler.settle[n] != 0) ∧
      (∀ k : Unit4, t.cc[k] = delivered.foldl
        (fun u n => if BitVec.ofNat 8 (6 + k.val) ∈ (s.pinRow n).claimants then
          u.edge (s.banks.activeBank.ccRow k) (raw n) s.sampler.tick else u) s.cc[k]) ∧
      t.queue = delivered.foldl
        (fun q n => if (10 : Byte) ∈ (s.pinRow n).claimants ∧
            ((s.pinRow n).b7 = 2 ∨ (s.pinRow n).b7 = (if raw n then 0 else 1)) then
          q.post n (raw n) s.sampler.tick else q) s.queue ∧
      t = { s with
        sampler := { s.sampler with
          due := false, level := t.sampler.level, run := t.sampler.run, settle := t.sampler.settle }
        stats := { s.stats with maskedEdges := t.stats.maskedEdges }
        cc := t.cc, queue := t.queue, freeCount := s.freeCount + 1 }

/-- R138, R140: the expiry of the frame watch timer. -/
def Obligations.FrameWatchExpiryEntersFallback : Prop :=
  ∀ s : State, s.held = false → s.mc.mode = .running → s.mc.timer = some 0 →
    ∃ t, exec .frameWatchExpiry s = .next t ∧ EntersFallback .timeout s t ∧
      t = { s with
        mc := t.mc, pins := t.pins
        sampler := { s.sampler with settle := t.sampler.settle }
        stats := { s.stats with fallbackEntries := t.stats.fallbackEntries } }

/-! ### Units -/

/-- R115 to R118, Table 6-3: a setpoint handed to a pulse generator. -/
def Obligations.SetpointAdopted : Prop :=
  ∀ (u : PulseGen) (v : Setpoint),
    let stored := { u with nextPeriod := v.period, nextWidth := v.width }
    (u.state = .off → u.take v = stored) ∧
    (u.state = .stopped → v.period = 0 → u.take v = stored) ∧
    (u.state = .stopped → v.period ≠ 0 → u.take v = { stored with
      state := .running 0, period := v.period, width := v.width, outActive := v.width != 0
      restarted := false }) ∧
    ∀ p, u.state = .running p →
      (v.period ≠ 0 → u.take v = stored) ∧
      (v.period = 0 → u.take v = { stored with
        state := .stopped, period := 0, width := v.width, outActive := false, restarted := false })

/-- R125, R126: a delivered edge at a counter/capture unit. -/
def Obligations.CounterTakesEdge : Prop :=
  ∀ (u : CounterCapture) (row : Row) (rise : Bool) (stamp : Word),
    (row.b0 ≠ 1 → u.edge row rise stamp = u) ∧
    (row.b0 = 1 → row.b1.toNat ≤ 2 →
      u.edge row rise stamp =
        if row.b1 = 2 ∨ row.b1 = (if rise then 0 else 1) then { u with count := u.count + 1, stamp := stamp }
        else u) ∧
    (row.b0 = 1 → row.b1 = 3 →
      (rise = false → u.edge row rise stamp = u) ∧
      (rise = true → u.ref = none → u.edge row rise stamp = { u with ref := some stamp }) ∧
      ∀ r, rise = true → u.ref = some r → u.edge row rise stamp = ⟨stamp - r, stamp, some stamp⟩)

/-- R96, R97: an edge posted to the event queue, with and without a free place. -/
def Obligations.EdgePostedOrLost : Prop :=
  ∀ (q : EventQueue) (n : Pin) (rise : Bool) (stamp : Word),
    (q.records.length < 32 →
      q.post n rise stamp = ⟨q.records ++ [⟨q.nextSeq, n, rise, q.lost, stamp⟩], q.nextSeq + 1, 0⟩) ∧
    (q.records.length = 32 →
      q.post n rise stamp = { q with lost := if q.lost = 255 then 255 else q.lost + 1 })

/-- R100, R101, R102: an acknowledgement at the event queue, whose oldest number is `o`. -/
def Obligations.AcknowledgementRemovesRecords : Prop :=
  ∀ (q : EventQueue) (a : Half), q.Consecutive →
    let depth := q.records.length
    let o := q.nextSeq - BitVec.ofNat 16 depth
    (∀ k, k < depth → a = o + BitVec.ofNat 16 k →
      q.ack a = ({ q with records := q.records.drop (k + 1) }, false)) ∧
    (a = o - 1 → q.ack a = (q, false)) ∧
    ((∀ k, k < depth → a ≠ o + BitVec.ofNat 16 k) → a ≠ o - 1 → q.ack a = (q, true))

/-- R191, R192, Table 10-1, Table 10-8: byte order, the checks of the ASCII bytes "123456789", the places of an event
record. -/
def Obligations.ByteOrderAndChecks : Prop :=
  (∀ b0 b1 : Byte, bytes16 (b1 ++ b0) = [b0, b1]) ∧
  (∀ b0 b1 b2 : Byte, bytes24 (b2 ++ b1 ++ b0) = [b0, b1, b2]) ∧
  (∀ b0 b1 b2 b3 : Byte, bytes32 (b3 ++ b2 ++ b1 ++ b0) = [b0, b1, b2, b3]) ∧
  (∀ (r : EventRecord), r.bytes = bytes16 r.seq ++
    [BitVec.ofNat 8 (r.pin.val + (if r.rise then 0 else 128)), r.lostBefore] ++ bytes32 r.stamp) ∧
  (let digits : List Byte := [0x31, 0x32, 0x33, 0x34, 0x35, 0x36, 0x37, 0x38, 0x39];
    crc32 digits = 0xFC891918 ∧ crc16 digits = 0x29B1 ∧ crc8 digits = 0xF4)

/-! ### Invariants -/

/-- R94, R163: the event queue stays consecutive and the view stays within its table. -/
def Obligations.QueueAndViewKept : Prop :=
  KeptByEveryStep (fun s => s.queue.Consecutive) ∧ KeptByEveryStep State.ViewOk

/-- R58, R60: after every step each pin's owner is its deciding source. -/
def Obligations.OwnersStayDecided : Prop := KeptByEveryStep State.OwnersDecided

/-- R2, R4 to R6, R65, R76, R132, R137, R152, R175: address, generations, modes, slot and force records stay
consistent. -/
def Obligations.NodeStaysConsistent : Prop := KeptByEveryStep State.Consistent

/-- R110, R111, Table 6-1: the pulse generators stay in the states of the table. That the phase may stand at the period
while its period start is due, and the output mark, are the model's (entry 10), as is the restart mark (entry 23). -/
def Obligations.PulseGeneratorsStayOk : Prop := KeptByEveryStep State.PulseOk

/-- R8, R34, R182 to R184: the frame in passage and the frame-pending tier stay in order. -/
def Obligations.FrameStaysInOrder : Prop := KeptByEveryStep State.FrameOk

/-- The invariants hold at the state after reset. -/
def Obligations.InvariantsHoldAtReset : Prop :=
  State.reset.queue.Consecutive ∧ State.reset.ViewOk ∧ State.reset.OwnersDecided ∧ State.reset.Consistent ∧
    State.reset.PulseOk ∧ State.reset.FrameOk
end

