-- ==== Sys2Proof/Laws/State.lean ====
section
/-! SUPPORT. What each update of the state does to each field: one lemma per field per update, by `rfl`. -/

namespace Sys2Proof.Machine

/-! ### `State.setFrame` -/

@[simp] theorem State.setFrame_banks (f : Option Frame) (s : State) : (s.setFrame f).banks = s.banks := rfl
@[simp] theorem State.setFrame_store (f : Option Frame) (s : State) : (s.setFrame f).store = s.store := rfl
@[simp] theorem State.setFrame_pins (f : Option Frame) (s : State) : (s.setFrame f).pins = s.pins := rfl
@[simp] theorem State.setFrame_sampler (f : Option Frame) (s : State) : (s.setFrame f).sampler = s.sampler := rfl
@[simp] theorem State.setFrame_pg (f : Option Frame) (s : State) : (s.setFrame f).pg = s.pg := rfl
@[simp] theorem State.setFrame_cc (f : Option Frame) (s : State) : (s.setFrame f).cc = s.cc := rfl
@[simp] theorem State.setFrame_queue (f : Option Frame) (s : State) : (s.setFrame f).queue = s.queue := rfl
@[simp] theorem State.setFrame_mc (f : Option Frame) (s : State) : (s.setFrame f).mc = s.mc := rfl
@[simp] theorem State.setFrame_mx (f : Option Frame) (s : State) : (s.setFrame f).mx = s.mx := rfl
@[simp] theorem State.setFrame_fp (f : Option Frame) (s : State) : (s.setFrame f).fp = { s.fp with frame := f } := rfl
@[simp] theorem State.setFrame_link (f : Option Frame) (s : State) : (s.setFrame f).link = s.link := rfl
@[simp] theorem State.setFrame_stats (f : Option Frame) (s : State) : (s.setFrame f).stats = s.stats := rfl
@[simp] theorem State.setFrame_hold (f : Option Frame) (s : State) : (s.setFrame f).hold = s.hold := rfl
@[simp] theorem State.setFrame_freeCount (f : Option Frame) (s : State) :
    (s.setFrame f).freeCount = s.freeCount := rfl
@[simp] theorem State.setFrame_pending (f : Option Frame) (s : State) : (s.setFrame f).pending = s.pending := rfl

/-! ### `State.setStats` -/

@[simp] theorem State.setStats_banks (c : Stats) (s : State) : (s.setStats c).banks = s.banks := rfl
@[simp] theorem State.setStats_store (c : Stats) (s : State) : (s.setStats c).store = s.store := rfl
@[simp] theorem State.setStats_pins (c : Stats) (s : State) : (s.setStats c).pins = s.pins := rfl
@[simp] theorem State.setStats_sampler (c : Stats) (s : State) : (s.setStats c).sampler = s.sampler := rfl
@[simp] theorem State.setStats_pg (c : Stats) (s : State) : (s.setStats c).pg = s.pg := rfl
@[simp] theorem State.setStats_cc (c : Stats) (s : State) : (s.setStats c).cc = s.cc := rfl
@[simp] theorem State.setStats_queue (c : Stats) (s : State) : (s.setStats c).queue = s.queue := rfl
@[simp] theorem State.setStats_mc (c : Stats) (s : State) : (s.setStats c).mc = s.mc := rfl
@[simp] theorem State.setStats_mx (c : Stats) (s : State) : (s.setStats c).mx = s.mx := rfl
@[simp] theorem State.setStats_fp (c : Stats) (s : State) : (s.setStats c).fp = s.fp := rfl
@[simp] theorem State.setStats_link (c : Stats) (s : State) : (s.setStats c).link = s.link := rfl
@[simp] theorem State.setStats_stats (c : Stats) (s : State) : (s.setStats c).stats = c := rfl
@[simp] theorem State.setStats_hold (c : Stats) (s : State) : (s.setStats c).hold = s.hold := rfl
@[simp] theorem State.setStats_freeCount (c : Stats) (s : State) : (s.setStats c).freeCount = s.freeCount := rfl
@[simp] theorem State.setStats_pending (c : Stats) (s : State) : (s.setStats c).pending = s.pending := rfl

/-! ### `State.setSlot` -/

@[simp] theorem State.setSlot_banks (x : Slot) (s : State) : (s.setSlot x).banks = s.banks := rfl
@[simp] theorem State.setSlot_store (x : Slot) (s : State) : (s.setSlot x).store = s.store := rfl
@[simp] theorem State.setSlot_pins (x : Slot) (s : State) : (s.setSlot x).pins = s.pins := rfl
@[simp] theorem State.setSlot_sampler (x : Slot) (s : State) : (s.setSlot x).sampler = s.sampler := rfl
@[simp] theorem State.setSlot_pg (x : Slot) (s : State) : (s.setSlot x).pg = s.pg := rfl
@[simp] theorem State.setSlot_cc (x : Slot) (s : State) : (s.setSlot x).cc = s.cc := rfl
@[simp] theorem State.setSlot_queue (x : Slot) (s : State) : (s.setSlot x).queue = s.queue := rfl
@[simp] theorem State.setSlot_mc (x : Slot) (s : State) : (s.setSlot x).mc = s.mc := rfl
@[simp] theorem State.setSlot_mx (x : Slot) (s : State) : (s.setSlot x).mx = { s.mx with slot := x } := rfl
@[simp] theorem State.setSlot_fp (x : Slot) (s : State) : (s.setSlot x).fp = s.fp := rfl
@[simp] theorem State.setSlot_link (x : Slot) (s : State) : (s.setSlot x).link = s.link := rfl
@[simp] theorem State.setSlot_stats (x : Slot) (s : State) : (s.setSlot x).stats = s.stats := rfl
@[simp] theorem State.setSlot_hold (x : Slot) (s : State) : (s.setSlot x).hold = s.hold := rfl
@[simp] theorem State.setSlot_freeCount (x : Slot) (s : State) : (s.setSlot x).freeCount = s.freeCount := rfl
@[simp] theorem State.setSlot_pending (x : Slot) (s : State) : (s.setSlot x).pending = s.pending := rfl

/-! ### `State.setLast` -/

@[simp] theorem State.setLast_banks (r : Response) (s : State) : (s.setLast r).banks = s.banks := rfl
@[simp] theorem State.setLast_store (r : Response) (s : State) : (s.setLast r).store = s.store := rfl
@[simp] theorem State.setLast_pins (r : Response) (s : State) : (s.setLast r).pins = s.pins := rfl
@[simp] theorem State.setLast_sampler (r : Response) (s : State) : (s.setLast r).sampler = s.sampler := rfl
@[simp] theorem State.setLast_pg (r : Response) (s : State) : (s.setLast r).pg = s.pg := rfl
@[simp] theorem State.setLast_cc (r : Response) (s : State) : (s.setLast r).cc = s.cc := rfl
@[simp] theorem State.setLast_queue (r : Response) (s : State) : (s.setLast r).queue = s.queue := rfl
@[simp] theorem State.setLast_mc (r : Response) (s : State) : (s.setLast r).mc = s.mc := rfl
@[simp] theorem State.setLast_mx (r : Response) (s : State) : (s.setLast r).mx = { s.mx with last := some r } := rfl
@[simp] theorem State.setLast_fp (r : Response) (s : State) : (s.setLast r).fp = s.fp := rfl
@[simp] theorem State.setLast_link (r : Response) (s : State) : (s.setLast r).link = s.link := rfl
@[simp] theorem State.setLast_stats (r : Response) (s : State) : (s.setLast r).stats = s.stats := rfl
@[simp] theorem State.setLast_hold (r : Response) (s : State) : (s.setLast r).hold = s.hold := rfl
@[simp] theorem State.setLast_freeCount (r : Response) (s : State) : (s.setLast r).freeCount = s.freeCount := rfl
@[simp] theorem State.setLast_pending (r : Response) (s : State) : (s.setLast r).pending = s.pending := rfl

/-! ### `State.setMark` -/

@[simp] theorem State.setMark_banks (m : Option Byte) (s : State) : (s.setMark m).banks = s.banks := rfl
@[simp] theorem State.setMark_store (m : Option Byte) (s : State) : (s.setMark m).store = s.store := rfl
@[simp] theorem State.setMark_pins (m : Option Byte) (s : State) : (s.setMark m).pins = s.pins := rfl
@[simp] theorem State.setMark_sampler (m : Option Byte) (s : State) : (s.setMark m).sampler = s.sampler := rfl
@[simp] theorem State.setMark_pg (m : Option Byte) (s : State) : (s.setMark m).pg = s.pg := rfl
@[simp] theorem State.setMark_cc (m : Option Byte) (s : State) : (s.setMark m).cc = s.cc := rfl
@[simp] theorem State.setMark_queue (m : Option Byte) (s : State) : (s.setMark m).queue = s.queue := rfl
@[simp] theorem State.setMark_mc (m : Option Byte) (s : State) : (s.setMark m).mc = s.mc := rfl
@[simp] theorem State.setMark_mx (m : Option Byte) (s : State) : (s.setMark m).mx = s.mx := rfl
@[simp] theorem State.setMark_fp (m : Option Byte) (s : State) : (s.setMark m).fp = s.fp := rfl
@[simp] theorem State.setMark_link (m : Option Byte) (s : State) :
    (s.setMark m).link = { s.link with breakMark := m } := rfl
@[simp] theorem State.setMark_stats (m : Option Byte) (s : State) : (s.setMark m).stats = s.stats := rfl
@[simp] theorem State.setMark_hold (m : Option Byte) (s : State) : (s.setMark m).hold = s.hold := rfl
@[simp] theorem State.setMark_freeCount (m : Option Byte) (s : State) : (s.setMark m).freeCount = s.freeCount := rfl
@[simp] theorem State.setMark_pending (m : Option Byte) (s : State) : (s.setMark m).pending = s.pending := rfl

/-! ### `State.setDiscarding` -/

@[simp] theorem State.setDiscarding_banks (b : Bool) (s : State) : (s.setDiscarding b).banks = s.banks := rfl
@[simp] theorem State.setDiscarding_store (b : Bool) (s : State) : (s.setDiscarding b).store = s.store := rfl
@[simp] theorem State.setDiscarding_pins (b : Bool) (s : State) : (s.setDiscarding b).pins = s.pins := rfl
@[simp] theorem State.setDiscarding_sampler (b : Bool) (s : State) : (s.setDiscarding b).sampler = s.sampler := rfl
@[simp] theorem State.setDiscarding_pg (b : Bool) (s : State) : (s.setDiscarding b).pg = s.pg := rfl
@[simp] theorem State.setDiscarding_cc (b : Bool) (s : State) : (s.setDiscarding b).cc = s.cc := rfl
@[simp] theorem State.setDiscarding_queue (b : Bool) (s : State) : (s.setDiscarding b).queue = s.queue := rfl
@[simp] theorem State.setDiscarding_mc (b : Bool) (s : State) : (s.setDiscarding b).mc = s.mc := rfl
@[simp] theorem State.setDiscarding_mx (b : Bool) (s : State) : (s.setDiscarding b).mx = s.mx := rfl
@[simp] theorem State.setDiscarding_fp (b : Bool) (s : State) : (s.setDiscarding b).fp = s.fp := rfl
@[simp] theorem State.setDiscarding_link (b : Bool) (s : State) :
    (s.setDiscarding b).link = { s.link with discarding := b } := rfl
@[simp] theorem State.setDiscarding_stats (b : Bool) (s : State) : (s.setDiscarding b).stats = s.stats := rfl
@[simp] theorem State.setDiscarding_hold (b : Bool) (s : State) : (s.setDiscarding b).hold = s.hold := rfl
@[simp] theorem State.setDiscarding_freeCount (b : Bool) (s : State) :
    (s.setDiscarding b).freeCount = s.freeCount := rfl
@[simp] theorem State.setDiscarding_pending (b : Bool) (s : State) : (s.setDiscarding b).pending = s.pending := rfl

/-! ### `State.push` -/

@[simp] theorem State.push_banks (xs : List OutSym) (s : State) : (s.push xs).banks = s.banks := rfl
@[simp] theorem State.push_store (xs : List OutSym) (s : State) : (s.push xs).store = s.store := rfl
@[simp] theorem State.push_pins (xs : List OutSym) (s : State) : (s.push xs).pins = s.pins := rfl
@[simp] theorem State.push_sampler (xs : List OutSym) (s : State) : (s.push xs).sampler = s.sampler := rfl
@[simp] theorem State.push_pg (xs : List OutSym) (s : State) : (s.push xs).pg = s.pg := rfl
@[simp] theorem State.push_cc (xs : List OutSym) (s : State) : (s.push xs).cc = s.cc := rfl
@[simp] theorem State.push_queue (xs : List OutSym) (s : State) : (s.push xs).queue = s.queue := rfl
@[simp] theorem State.push_mc (xs : List OutSym) (s : State) : (s.push xs).mc = s.mc := rfl
@[simp] theorem State.push_mx (xs : List OutSym) (s : State) : (s.push xs).mx = s.mx := rfl
@[simp] theorem State.push_fp (xs : List OutSym) (s : State) : (s.push xs).fp = s.fp := rfl
@[simp] theorem State.push_link (xs : List OutSym) (s : State) :
    (s.push xs).link = { s.link with line := drain (s.link.line ++ xs) } := rfl
@[simp] theorem State.push_stats (xs : List OutSym) (s : State) : (s.push xs).stats = s.stats := rfl
@[simp] theorem State.push_hold (xs : List OutSym) (s : State) : (s.push xs).hold = s.hold := rfl
@[simp] theorem State.push_freeCount (xs : List OutSym) (s : State) : (s.push xs).freeCount = s.freeCount := rfl
@[simp] theorem State.push_pending (xs : List OutSym) (s : State) : (s.push xs).pending = s.pending := rfl

/-! ### `State.latch` -/

@[simp] theorem State.latch_banks (s : State) : s.latch.banks = s.banks := rfl
@[simp] theorem State.latch_store (s : State) : s.latch.store = s.store := rfl
@[simp] theorem State.latch_pins (s : State) : s.latch.pins = s.pins := rfl
@[simp] theorem State.latch_sampler (s : State) :
    s.latch.sampler = { s.sampler with snapshot := s.sampler.level } := rfl
@[simp] theorem State.latch_pg (s : State) : s.latch.pg = s.pg := rfl
@[simp] theorem State.latch_cc (s : State) : s.latch.cc = s.cc := rfl
@[simp] theorem State.latch_queue (s : State) : s.latch.queue = s.queue := rfl
@[simp] theorem State.latch_mc (s : State) : s.latch.mc = s.mc := rfl
@[simp] theorem State.latch_mx (s : State) : s.latch.mx = s.mx := rfl
@[simp] theorem State.latch_fp (s : State) : s.latch.fp = s.fp := rfl
@[simp] theorem State.latch_link (s : State) : s.latch.link = s.link := rfl
@[simp] theorem State.latch_stats (s : State) : s.latch.stats = s.stats := rfl
@[simp] theorem State.latch_hold (s : State) : s.latch.hold = s.hold := rfl
@[simp] theorem State.latch_freeCount (s : State) : s.latch.freeCount = s.freeCount := rfl
@[simp] theorem State.latch_pending (s : State) : s.latch.pending = s.pending := rfl

/-! ### `State.emptyPending` -/

@[simp] theorem State.emptyPending_banks (s : State) : s.emptyPending.banks = s.banks := rfl
@[simp] theorem State.emptyPending_store (s : State) :
    s.emptyPending.store = { s.store with framePending := FramePending.empty } := rfl
@[simp] theorem State.emptyPending_pins (s : State) : s.emptyPending.pins = s.pins := rfl
@[simp] theorem State.emptyPending_sampler (s : State) : s.emptyPending.sampler = s.sampler := rfl
@[simp] theorem State.emptyPending_pg (s : State) : s.emptyPending.pg = s.pg := rfl
@[simp] theorem State.emptyPending_cc (s : State) : s.emptyPending.cc = s.cc := rfl
@[simp] theorem State.emptyPending_queue (s : State) : s.emptyPending.queue = s.queue := rfl
@[simp] theorem State.emptyPending_mc (s : State) : s.emptyPending.mc = s.mc := rfl
@[simp] theorem State.emptyPending_mx (s : State) : s.emptyPending.mx = s.mx := rfl
@[simp] theorem State.emptyPending_fp (s : State) : s.emptyPending.fp = s.fp := rfl
@[simp] theorem State.emptyPending_link (s : State) : s.emptyPending.link = s.link := rfl
@[simp] theorem State.emptyPending_stats (s : State) : s.emptyPending.stats = s.stats := rfl
@[simp] theorem State.emptyPending_hold (s : State) : s.emptyPending.hold = s.hold := rfl
@[simp] theorem State.emptyPending_freeCount (s : State) : s.emptyPending.freeCount = s.freeCount := rfl
@[simp] theorem State.emptyPending_pending (s : State) : s.emptyPending.pending = s.pending := rfl

/-! ### `State.clearArmed` -/

@[simp] theorem State.clearArmed_banks (s : State) : s.clearArmed.banks = { s.banks with armed := none } := rfl
@[simp] theorem State.clearArmed_store (s : State) : s.clearArmed.store = s.store := rfl
@[simp] theorem State.clearArmed_pins (s : State) : s.clearArmed.pins = s.pins := rfl
@[simp] theorem State.clearArmed_sampler (s : State) : s.clearArmed.sampler = s.sampler := rfl
@[simp] theorem State.clearArmed_pg (s : State) : s.clearArmed.pg = s.pg := rfl
@[simp] theorem State.clearArmed_cc (s : State) : s.clearArmed.cc = s.cc := rfl
@[simp] theorem State.clearArmed_queue (s : State) : s.clearArmed.queue = s.queue := rfl
@[simp] theorem State.clearArmed_mc (s : State) : s.clearArmed.mc = s.mc := rfl
@[simp] theorem State.clearArmed_mx (s : State) : s.clearArmed.mx = s.mx := rfl
@[simp] theorem State.clearArmed_fp (s : State) : s.clearArmed.fp = s.fp := rfl
@[simp] theorem State.clearArmed_link (s : State) : s.clearArmed.link = s.link := rfl
@[simp] theorem State.clearArmed_stats (s : State) : s.clearArmed.stats = s.stats := rfl
@[simp] theorem State.clearArmed_hold (s : State) : s.clearArmed.hold = s.hold := rfl
@[simp] theorem State.clearArmed_freeCount (s : State) : s.clearArmed.freeCount = s.freeCount := rfl
@[simp] theorem State.clearArmed_pending (s : State) : s.clearArmed.pending = s.pending := rfl

/-! ### `State.startTimer` -/

@[simp] theorem State.startTimer_banks (s : State) : s.startTimer.banks = s.banks := rfl
@[simp] theorem State.startTimer_store (s : State) : s.startTimer.store = s.store := rfl
@[simp] theorem State.startTimer_pins (s : State) : s.startTimer.pins = s.pins := rfl
@[simp] theorem State.startTimer_sampler (s : State) : s.startTimer.sampler = s.sampler := rfl
@[simp] theorem State.startTimer_pg (s : State) : s.startTimer.pg = s.pg := rfl
@[simp] theorem State.startTimer_cc (s : State) : s.startTimer.cc = s.cc := rfl
@[simp] theorem State.startTimer_queue (s : State) : s.startTimer.queue = s.queue := rfl
@[simp] theorem State.startTimer_mc (s : State) :
    s.startTimer.mc = { s.mc with timer := some (s.policy.timeout * Config.timeoutUnit) } := rfl
@[simp] theorem State.startTimer_mx (s : State) : s.startTimer.mx = s.mx := rfl
@[simp] theorem State.startTimer_fp (s : State) : s.startTimer.fp = s.fp := rfl
@[simp] theorem State.startTimer_link (s : State) : s.startTimer.link = s.link := rfl
@[simp] theorem State.startTimer_stats (s : State) : s.startTimer.stats = s.stats := rfl
@[simp] theorem State.startTimer_hold (s : State) : s.startTimer.hold = s.hold := rfl
@[simp] theorem State.startTimer_freeCount (s : State) : s.startTimer.freeCount = s.freeCount := rfl
@[simp] theorem State.startTimer_pending (s : State) : s.startTimer.pending = s.pending := rfl

/-! ### `State.countConsumed` -/

@[simp] theorem State.countConsumed_banks (s : State) : s.countConsumed.banks = s.banks := rfl
@[simp] theorem State.countConsumed_store (s : State) : s.countConsumed.store = s.store := rfl
@[simp] theorem State.countConsumed_pins (s : State) : s.countConsumed.pins = s.pins := rfl
@[simp] theorem State.countConsumed_sampler (s : State) : s.countConsumed.sampler = s.sampler := rfl
@[simp] theorem State.countConsumed_pg (s : State) : s.countConsumed.pg = s.pg := rfl
@[simp] theorem State.countConsumed_cc (s : State) : s.countConsumed.cc = s.cc := rfl
@[simp] theorem State.countConsumed_queue (s : State) : s.countConsumed.queue = s.queue := rfl
@[simp] theorem State.countConsumed_mc (s : State) : s.countConsumed.mc = s.mc := rfl
@[simp] theorem State.countConsumed_mx (s : State) : s.countConsumed.mx = s.mx := rfl
@[simp] theorem State.countConsumed_fp (s : State) : s.countConsumed.fp = s.fp := rfl
@[simp] theorem State.countConsumed_link (s : State) : s.countConsumed.link = s.link := rfl
@[simp] theorem State.countConsumed_stats (s : State) :
    s.countConsumed.stats = { s.stats with consumed := satInc s.stats.consumed } := rfl
@[simp] theorem State.countConsumed_hold (s : State) : s.countConsumed.hold = s.hold := rfl
@[simp] theorem State.countConsumed_freeCount (s : State) : s.countConsumed.freeCount = s.freeCount := rfl
@[simp] theorem State.countConsumed_pending (s : State) : s.countConsumed.pending = s.pending := rfl

/-! ### `State.countLeft` -/

@[simp] theorem State.countLeft_banks (s : State) : s.countLeft.banks = s.banks := rfl
@[simp] theorem State.countLeft_store (s : State) : s.countLeft.store = s.store := rfl
@[simp] theorem State.countLeft_pins (s : State) : s.countLeft.pins = s.pins := rfl
@[simp] theorem State.countLeft_sampler (s : State) : s.countLeft.sampler = s.sampler := rfl
@[simp] theorem State.countLeft_pg (s : State) : s.countLeft.pg = s.pg := rfl
@[simp] theorem State.countLeft_cc (s : State) : s.countLeft.cc = s.cc := rfl
@[simp] theorem State.countLeft_queue (s : State) : s.countLeft.queue = s.queue := rfl
@[simp] theorem State.countLeft_mc (s : State) : s.countLeft.mc = s.mc := rfl
@[simp] theorem State.countLeft_mx (s : State) : s.countLeft.mx = s.mx := rfl
@[simp] theorem State.countLeft_fp (s : State) : s.countLeft.fp = s.fp := rfl
@[simp] theorem State.countLeft_link (s : State) : s.countLeft.link = s.link := rfl
@[simp] theorem State.countLeft_stats (s : State) :
    s.countLeft.stats = { s.stats with left := satInc s.stats.left } := rfl
@[simp] theorem State.countLeft_hold (s : State) : s.countLeft.hold = s.hold := rfl
@[simp] theorem State.countLeft_freeCount (s : State) : s.countLeft.freeCount = s.freeCount := rfl
@[simp] theorem State.countLeft_pending (s : State) : s.countLeft.pending = s.pending := rfl

/-! ### `State.countReplay` -/

@[simp] theorem State.countReplay_banks (s : State) : s.countReplay.banks = s.banks := rfl
@[simp] theorem State.countReplay_store (s : State) : s.countReplay.store = s.store := rfl
@[simp] theorem State.countReplay_pins (s : State) : s.countReplay.pins = s.pins := rfl
@[simp] theorem State.countReplay_sampler (s : State) : s.countReplay.sampler = s.sampler := rfl
@[simp] theorem State.countReplay_pg (s : State) : s.countReplay.pg = s.pg := rfl
@[simp] theorem State.countReplay_cc (s : State) : s.countReplay.cc = s.cc := rfl
@[simp] theorem State.countReplay_queue (s : State) : s.countReplay.queue = s.queue := rfl
@[simp] theorem State.countReplay_mc (s : State) : s.countReplay.mc = s.mc := rfl
@[simp] theorem State.countReplay_mx (s : State) : s.countReplay.mx = s.mx := rfl
@[simp] theorem State.countReplay_fp (s : State) : s.countReplay.fp = s.fp := rfl
@[simp] theorem State.countReplay_link (s : State) : s.countReplay.link = s.link := rfl
@[simp] theorem State.countReplay_stats (s : State) :
    s.countReplay.stats = { s.stats with consumed := satInc s.stats.consumed, replays := satInc s.stats.replays } := rfl
@[simp] theorem State.countReplay_hold (s : State) : s.countReplay.hold = s.hold := rfl
@[simp] theorem State.countReplay_freeCount (s : State) : s.countReplay.freeCount = s.freeCount := rfl
@[simp] theorem State.countReplay_pending (s : State) : s.countReplay.pending = s.pending := rfl

/-! ### `State.dropFrame` -/

@[simp] theorem State.dropFrame_banks (s : State) : s.dropFrame.banks = s.banks := rfl
@[simp] theorem State.dropFrame_store (s : State) : s.dropFrame.store = s.store := rfl
@[simp] theorem State.dropFrame_pins (s : State) : s.dropFrame.pins = s.pins := rfl
@[simp] theorem State.dropFrame_sampler (s : State) : s.dropFrame.sampler = s.sampler := rfl
@[simp] theorem State.dropFrame_pg (s : State) : s.dropFrame.pg = s.pg := rfl
@[simp] theorem State.dropFrame_cc (s : State) : s.dropFrame.cc = s.cc := rfl
@[simp] theorem State.dropFrame_queue (s : State) : s.dropFrame.queue = s.queue := rfl
@[simp] theorem State.dropFrame_mc (s : State) : s.dropFrame.mc = s.mc := rfl
@[simp] theorem State.dropFrame_mx (s : State) : s.dropFrame.mx = s.mx := rfl
@[simp] theorem State.dropFrame_fp (s : State) : s.dropFrame.fp = s.fp := rfl
@[simp] theorem State.dropFrame_link (s : State) : s.dropFrame.link = s.link := rfl
@[simp] theorem State.dropFrame_stats (s : State) :
    s.dropFrame.stats = { s.stats with aborted := satInc s.stats.aborted } := rfl
@[simp] theorem State.dropFrame_hold (s : State) : s.dropFrame.hold = s.hold := rfl
@[simp] theorem State.dropFrame_freeCount (s : State) : s.dropFrame.freeCount = s.freeCount := rfl
@[simp] theorem State.dropFrame_pending (s : State) : s.dropFrame.pending = s.pending := rfl

/-! ### `State.validLink` -/

@[simp] theorem State.validLink_banks (i : Bool) (s : State) : (s.validLink i).banks = s.banks := rfl
@[simp] theorem State.validLink_store (i : Bool) (s : State) : (s.validLink i).store = s.store := rfl
@[simp] theorem State.validLink_pins (i : Bool) (s : State) : (s.validLink i).pins = s.pins := rfl
@[simp] theorem State.validLink_sampler (i : Bool) (s : State) : (s.validLink i).sampler = s.sampler := rfl
@[simp] theorem State.validLink_pg (i : Bool) (s : State) : (s.validLink i).pg = s.pg := rfl
@[simp] theorem State.validLink_cc (i : Bool) (s : State) : (s.validLink i).cc = s.cc := rfl
@[simp] theorem State.validLink_queue (i : Bool) (s : State) : (s.validLink i).queue = s.queue := rfl
@[simp] theorem State.validLink_mc (i : Bool) (s : State) : (s.validLink i).mc = s.mc := rfl
@[simp] theorem State.validLink_mx (i : Bool) (s : State) : (s.validLink i).mx = s.mx := rfl
@[simp] theorem State.validLink_fp (i : Bool) (s : State) : (s.validLink i).fp = s.fp := rfl
@[simp] theorem State.validLink_link (i : Bool) (s : State) : (s.validLink i).link = s.link.valid i := rfl
@[simp] theorem State.validLink_stats (i : Bool) (s : State) : (s.validLink i).stats = s.stats := rfl
@[simp] theorem State.validLink_hold (i : Bool) (s : State) : (s.validLink i).hold = s.hold := rfl
@[simp] theorem State.validLink_freeCount (i : Bool) (s : State) : (s.validLink i).freeCount = s.freeCount := rfl
@[simp] theorem State.validLink_pending (i : Bool) (s : State) : (s.validLink i).pending = s.pending := rfl

/-! ### `State.relay` -/

@[simp] theorem State.relay_banks (s : State) : s.relay.banks = s.banks := rfl
@[simp] theorem State.relay_store (s : State) : s.relay.store = s.store := rfl
@[simp] theorem State.relay_pins (s : State) : s.relay.pins = s.pins := rfl
@[simp] theorem State.relay_sampler (s : State) : s.relay.sampler = s.sampler := rfl
@[simp] theorem State.relay_pg (s : State) : s.relay.pg = s.pg := rfl
@[simp] theorem State.relay_cc (s : State) : s.relay.cc = s.cc := rfl
@[simp] theorem State.relay_queue (s : State) : s.relay.queue = s.queue := rfl
@[simp] theorem State.relay_mc (s : State) : s.relay.mc = s.mc := rfl
@[simp] theorem State.relay_mx (s : State) : s.relay.mx = s.mx := rfl
@[simp] theorem State.relay_fp (s : State) : s.relay.fp = s.fp := rfl
@[simp] theorem State.relay_link (s : State) :
    s.relay.link = { s.link with line := drain (s.link.line ++ [relayMark s.link.breakMark]) } := rfl
@[simp] theorem State.relay_stats (s : State) : s.relay.stats = s.stats := rfl
@[simp] theorem State.relay_hold (s : State) : s.relay.hold = s.hold := rfl
@[simp] theorem State.relay_freeCount (s : State) : s.relay.freeCount = s.freeCount := rfl
@[simp] theorem State.relay_pending (s : State) : s.relay.pending = s.pending := rfl

/-! ### `State.passSymbols` -/

@[simp] theorem State.passSymbols_banks (f : Frame) (arr : List Sym) (out : List OutSym) (s : State) :
    (s.passSymbols f arr out).banks = s.banks := rfl
@[simp] theorem State.passSymbols_store (f : Frame) (arr : List Sym) (out : List OutSym) (s : State) :
    (s.passSymbols f arr out).store = s.store := rfl
@[simp] theorem State.passSymbols_pins (f : Frame) (arr : List Sym) (out : List OutSym) (s : State) :
    (s.passSymbols f arr out).pins = s.pins := rfl
@[simp] theorem State.passSymbols_sampler (f : Frame) (arr : List Sym) (out : List OutSym) (s : State) :
    (s.passSymbols f arr out).sampler = s.sampler := rfl
@[simp] theorem State.passSymbols_pg (f : Frame) (arr : List Sym) (out : List OutSym) (s : State) :
    (s.passSymbols f arr out).pg = s.pg := rfl
@[simp] theorem State.passSymbols_cc (f : Frame) (arr : List Sym) (out : List OutSym) (s : State) :
    (s.passSymbols f arr out).cc = s.cc := rfl
@[simp] theorem State.passSymbols_queue (f : Frame) (arr : List Sym) (out : List OutSym) (s : State) :
    (s.passSymbols f arr out).queue = s.queue := rfl
@[simp] theorem State.passSymbols_mc (f : Frame) (arr : List Sym) (out : List OutSym) (s : State) :
    (s.passSymbols f arr out).mc = s.mc := rfl
@[simp] theorem State.passSymbols_mx (f : Frame) (arr : List Sym) (out : List OutSym) (s : State) :
    (s.passSymbols f arr out).mx = s.mx := rfl
@[simp] theorem State.passSymbols_fp (f : Frame) (arr : List Sym) (out : List OutSym) (s : State) :
    (s.passSymbols f arr out).fp = { s.fp with frame := some { f with
      arrived := f.arrived ++ arr, damaged := f.damaged || arr.any Sym.damages } } := rfl
@[simp] theorem State.passSymbols_link (f : Frame) (arr : List Sym) (out : List OutSym) (s : State) :
    (s.passSymbols f arr out).link = { s.link with
      line := drain (s.link.line ++ out), errorRun := errorRunAfter s.link.errorRun arr } := rfl
@[simp] theorem State.passSymbols_stats (f : Frame) (arr : List Sym) (out : List OutSym) (s : State) :
    (s.passSymbols f arr out).stats = s.stats := rfl
@[simp] theorem State.passSymbols_hold (f : Frame) (arr : List Sym) (out : List OutSym) (s : State) :
    (s.passSymbols f arr out).hold = s.hold := rfl
@[simp] theorem State.passSymbols_freeCount (f : Frame) (arr : List Sym) (out : List OutSym) (s : State) :
    (s.passSymbols f arr out).freeCount = s.freeCount := rfl
@[simp] theorem State.passSymbols_pending (f : Frame) (arr : List Sym) (out : List OutSym) (s : State) :
    (s.passSymbols f arr out).pending = s.pending := rfl

/-! ### `State.displace` -/

@[simp] theorem State.displace_banks (s : State) : s.displace.banks = s.banks := rfl
@[simp] theorem State.displace_store (s : State) : s.displace.store = s.store := rfl
@[simp] theorem State.displace_pins (s : State) : s.displace.pins = s.pins := rfl
@[simp] theorem State.displace_sampler (s : State) : s.displace.sampler = s.sampler := rfl
@[simp] theorem State.displace_pg (s : State) : s.displace.pg = s.pg := rfl
@[simp] theorem State.displace_cc (s : State) : s.displace.cc = s.cc := rfl
@[simp] theorem State.displace_queue (s : State) : s.displace.queue = s.queue := rfl
@[simp] theorem State.displace_mc (s : State) : s.displace.mc = s.mc := rfl
@[simp] theorem State.displace_mx (s : State) : s.displace.mx = { s.mx with slot := .idle } := rfl
@[simp] theorem State.displace_fp (s : State) : s.displace.fp = s.fp := rfl
@[simp] theorem State.displace_link (s : State) : s.displace.link = s.link := rfl
@[simp] theorem State.displace_stats (s : State) :
    s.displace.stats = { s.stats with displaced := satInc s.stats.displaced } := rfl
@[simp] theorem State.displace_hold (s : State) : s.displace.hold = s.hold := rfl
@[simp] theorem State.displace_freeCount (s : State) : s.displace.freeCount = s.freeCount := rfl
@[simp] theorem State.displace_pending (s : State) : s.displace.pending = s.pending := rfl

/-! ### `State.advanceView` -/

@[simp] theorem State.advanceView_banks (n : Nat) (s : State) : (s.advanceView n).banks = s.banks := rfl
@[simp] theorem State.advanceView_store (n : Nat) (s : State) : (s.advanceView n).store = s.store := rfl
@[simp] theorem State.advanceView_pins (n : Nat) (s : State) : (s.advanceView n).pins = s.pins := rfl
@[simp] theorem State.advanceView_sampler (n : Nat) (s : State) : (s.advanceView n).sampler = s.sampler := rfl
@[simp] theorem State.advanceView_pg (n : Nat) (s : State) : (s.advanceView n).pg = s.pg := rfl
@[simp] theorem State.advanceView_cc (n : Nat) (s : State) : (s.advanceView n).cc = s.cc := rfl
@[simp] theorem State.advanceView_queue (n : Nat) (s : State) : (s.advanceView n).queue = s.queue := rfl
@[simp] theorem State.advanceView_mc (n : Nat) (s : State) : (s.advanceView n).mc = s.mc := rfl
@[simp] theorem State.advanceView_mx (n : Nat) (s : State) :
    (s.advanceView n).mx = { s.mx with view := { s.mx.view with next := s.mx.view.next + n } } := rfl
@[simp] theorem State.advanceView_fp (n : Nat) (s : State) : (s.advanceView n).fp = s.fp := rfl
@[simp] theorem State.advanceView_link (n : Nat) (s : State) : (s.advanceView n).link = s.link := rfl
@[simp] theorem State.advanceView_stats (n : Nat) (s : State) : (s.advanceView n).stats = s.stats := rfl
@[simp] theorem State.advanceView_hold (n : Nat) (s : State) : (s.advanceView n).hold = s.hold := rfl
@[simp] theorem State.advanceView_freeCount (n : Nat) (s : State) : (s.advanceView n).freeCount = s.freeCount := rfl
@[simp] theorem State.advanceView_pending (n : Nat) (s : State) : (s.advanceView n).pending = s.pending := rfl

/-! ### `State.storeRows` -/

@[simp] theorem State.storeRows_banks (t : TableId) (i : Nat) (rs : List Row) (s : State) :
    (s.storeRows t i rs).banks = { s.banks.setStaged (s.banks.stagedBank.setRows t i rs) with armed := none } := rfl
@[simp] theorem State.storeRows_store (t : TableId) (i : Nat) (rs : List Row) (s : State) :
    (s.storeRows t i rs).store = s.store := rfl
@[simp] theorem State.storeRows_pins (t : TableId) (i : Nat) (rs : List Row) (s : State) :
    (s.storeRows t i rs).pins = s.pins := rfl
@[simp] theorem State.storeRows_sampler (t : TableId) (i : Nat) (rs : List Row) (s : State) :
    (s.storeRows t i rs).sampler = s.sampler := rfl
@[simp] theorem State.storeRows_pg (t : TableId) (i : Nat) (rs : List Row) (s : State) :
    (s.storeRows t i rs).pg = s.pg := rfl
@[simp] theorem State.storeRows_cc (t : TableId) (i : Nat) (rs : List Row) (s : State) :
    (s.storeRows t i rs).cc = s.cc := rfl
@[simp] theorem State.storeRows_queue (t : TableId) (i : Nat) (rs : List Row) (s : State) :
    (s.storeRows t i rs).queue = s.queue := rfl
@[simp] theorem State.storeRows_mc (t : TableId) (i : Nat) (rs : List Row) (s : State) :
    (s.storeRows t i rs).mc = s.mc := rfl
@[simp] theorem State.storeRows_mx (t : TableId) (i : Nat) (rs : List Row) (s : State) :
    (s.storeRows t i rs).mx = s.mx := rfl
@[simp] theorem State.storeRows_fp (t : TableId) (i : Nat) (rs : List Row) (s : State) :
    (s.storeRows t i rs).fp = s.fp := rfl
@[simp] theorem State.storeRows_link (t : TableId) (i : Nat) (rs : List Row) (s : State) :
    (s.storeRows t i rs).link = s.link := rfl
@[simp] theorem State.storeRows_stats (t : TableId) (i : Nat) (rs : List Row) (s : State) :
    (s.storeRows t i rs).stats = s.stats := rfl
@[simp] theorem State.storeRows_hold (t : TableId) (i : Nat) (rs : List Row) (s : State) :
    (s.storeRows t i rs).hold = s.hold := rfl
@[simp] theorem State.storeRows_freeCount (t : TableId) (i : Nat) (rs : List Row) (s : State) :
    (s.storeRows t i rs).freeCount = s.freeCount := rfl
@[simp] theorem State.storeRows_pending (t : TableId) (i : Nat) (rs : List Row) (s : State) :
    (s.storeRows t i rs).pending = s.pending := rfl

/-! ### `State.cloneDone` -/

@[simp] theorem State.cloneDone_banks (s : State) :
    s.cloneDone.banks = { s.banks.setStaged s.banks.activeBank with longOp := .idle } := rfl
@[simp] theorem State.cloneDone_store (s : State) : s.cloneDone.store = s.store := rfl
@[simp] theorem State.cloneDone_pins (s : State) : s.cloneDone.pins = s.pins := rfl
@[simp] theorem State.cloneDone_sampler (s : State) : s.cloneDone.sampler = s.sampler := rfl
@[simp] theorem State.cloneDone_pg (s : State) : s.cloneDone.pg = s.pg := rfl
@[simp] theorem State.cloneDone_cc (s : State) : s.cloneDone.cc = s.cc := rfl
@[simp] theorem State.cloneDone_queue (s : State) : s.cloneDone.queue = s.queue := rfl
@[simp] theorem State.cloneDone_mc (s : State) : s.cloneDone.mc = s.mc := rfl
@[simp] theorem State.cloneDone_mx (s : State) : s.cloneDone.mx = s.mx := rfl
@[simp] theorem State.cloneDone_fp (s : State) : s.cloneDone.fp = s.fp := rfl
@[simp] theorem State.cloneDone_link (s : State) : s.cloneDone.link = s.link := rfl
@[simp] theorem State.cloneDone_stats (s : State) : s.cloneDone.stats = s.stats := rfl
@[simp] theorem State.cloneDone_hold (s : State) : s.cloneDone.hold = s.hold := rfl
@[simp] theorem State.cloneDone_freeCount (s : State) : s.cloneDone.freeCount = s.freeCount := rfl
@[simp] theorem State.cloneDone_pending (s : State) : s.cloneDone.pending = s.pending := rfl

/-! ### `State.armDone` -/

@[simp] theorem State.armDone_banks (a : Option Byte) (s : State) :
    (s.armDone a).banks = { s.banks with armed := a, longOp := .idle } := rfl
@[simp] theorem State.armDone_store (a : Option Byte) (s : State) : (s.armDone a).store = s.store := rfl
@[simp] theorem State.armDone_pins (a : Option Byte) (s : State) : (s.armDone a).pins = s.pins := rfl
@[simp] theorem State.armDone_sampler (a : Option Byte) (s : State) : (s.armDone a).sampler = s.sampler := rfl
@[simp] theorem State.armDone_pg (a : Option Byte) (s : State) : (s.armDone a).pg = s.pg := rfl
@[simp] theorem State.armDone_cc (a : Option Byte) (s : State) : (s.armDone a).cc = s.cc := rfl
@[simp] theorem State.armDone_queue (a : Option Byte) (s : State) : (s.armDone a).queue = s.queue := rfl
@[simp] theorem State.armDone_mc (a : Option Byte) (s : State) : (s.armDone a).mc = s.mc := rfl
@[simp] theorem State.armDone_mx (a : Option Byte) (s : State) : (s.armDone a).mx = s.mx := rfl
@[simp] theorem State.armDone_fp (a : Option Byte) (s : State) : (s.armDone a).fp = s.fp := rfl
@[simp] theorem State.armDone_link (a : Option Byte) (s : State) : (s.armDone a).link = s.link := rfl
@[simp] theorem State.armDone_stats (a : Option Byte) (s : State) : (s.armDone a).stats = s.stats := rfl
@[simp] theorem State.armDone_hold (a : Option Byte) (s : State) : (s.armDone a).hold = s.hold := rfl
@[simp] theorem State.armDone_freeCount (a : Option Byte) (s : State) : (s.armDone a).freeCount = s.freeCount := rfl
@[simp] theorem State.armDone_pending (a : Option Byte) (s : State) : (s.armDone a).pending = s.pending := rfl

/-! ### `State.finishLong` -/

@[simp] theorem State.finishLong_banks (tag code st : Byte) (p : List Byte) (s : State) :
    (s.finishLong tag code st p).banks = s.banks := rfl
@[simp] theorem State.finishLong_store (tag code st : Byte) (p : List Byte) (s : State) :
    (s.finishLong tag code st p).store = s.store := rfl
@[simp] theorem State.finishLong_pins (tag code st : Byte) (p : List Byte) (s : State) :
    (s.finishLong tag code st p).pins = s.pins := rfl
@[simp] theorem State.finishLong_sampler (tag code st : Byte) (p : List Byte) (s : State) :
    (s.finishLong tag code st p).sampler = s.sampler := rfl
@[simp] theorem State.finishLong_pg (tag code st : Byte) (p : List Byte) (s : State) :
    (s.finishLong tag code st p).pg = s.pg := rfl
@[simp] theorem State.finishLong_cc (tag code st : Byte) (p : List Byte) (s : State) :
    (s.finishLong tag code st p).cc = s.cc := rfl
@[simp] theorem State.finishLong_queue (tag code st : Byte) (p : List Byte) (s : State) :
    (s.finishLong tag code st p).queue = s.queue := rfl
@[simp] theorem State.finishLong_mc (tag code st : Byte) (p : List Byte) (s : State) :
    (s.finishLong tag code st p).mc = s.mc := rfl
@[simp] theorem State.finishLong_mx (tag code st : Byte) (p : List Byte) (s : State) :
    (s.finishLong tag code st p).mx = { s.mx with
      slot := .answering ⟨tag, code, st, 0, p⟩, last := some ⟨tag, code, st, 0, p⟩ } := rfl
@[simp] theorem State.finishLong_fp (tag code st : Byte) (p : List Byte) (s : State) :
    (s.finishLong tag code st p).fp = s.fp := rfl
@[simp] theorem State.finishLong_link (tag code st : Byte) (p : List Byte) (s : State) :
    (s.finishLong tag code st p).link = s.link := rfl
@[simp] theorem State.finishLong_stats (tag code st : Byte) (p : List Byte) (s : State) :
    (s.finishLong tag code st p).stats = s.stats := rfl
@[simp] theorem State.finishLong_hold (tag code st : Byte) (p : List Byte) (s : State) :
    (s.finishLong tag code st p).hold = s.hold := rfl
@[simp] theorem State.finishLong_freeCount (tag code st : Byte) (p : List Byte) (s : State) :
    (s.finishLong tag code st p).freeCount = s.freeCount := rfl
@[simp] theorem State.finishLong_pending (tag code st : Byte) (p : List Byte) (s : State) :
    (s.finishLong tag code st p).pending = s.pending := rfl

/-! ### `State.redecideWith` -/

@[simp] theorem State.redecideWith_banks (ch : Pin → Bool) (s : State) :
    (s.redecideWith ch).banks = s.banks := by
  dsimp only [State.redecideWith]
@[simp] theorem State.redecideWith_store (ch : Pin → Bool) (s : State) :
    (s.redecideWith ch).store = s.store := by
  dsimp only [State.redecideWith]
@[simp] theorem State.redecideWith_pins (ch : Pin → Bool) (s : State) :
    (s.redecideWith ch).pins = { s.pins with owner := Vector.ofFn fun n => s.deciding n } := by
  dsimp only [State.redecideWith]
@[simp] theorem State.redecideWith_pg (ch : Pin → Bool) (s : State) :
    (s.redecideWith ch).pg = s.pg := by
  dsimp only [State.redecideWith]
@[simp] theorem State.redecideWith_cc (ch : Pin → Bool) (s : State) :
    (s.redecideWith ch).cc = s.cc := by
  dsimp only [State.redecideWith]
@[simp] theorem State.redecideWith_queue (ch : Pin → Bool) (s : State) :
    (s.redecideWith ch).queue = s.queue := by
  dsimp only [State.redecideWith]
@[simp] theorem State.redecideWith_mc (ch : Pin → Bool) (s : State) :
    (s.redecideWith ch).mc = s.mc := by
  dsimp only [State.redecideWith]
@[simp] theorem State.redecideWith_mx (ch : Pin → Bool) (s : State) :
    (s.redecideWith ch).mx = s.mx := by
  dsimp only [State.redecideWith]
@[simp] theorem State.redecideWith_fp (ch : Pin → Bool) (s : State) :
    (s.redecideWith ch).fp = s.fp := by
  dsimp only [State.redecideWith]
@[simp] theorem State.redecideWith_link (ch : Pin → Bool) (s : State) :
    (s.redecideWith ch).link = s.link := by
  dsimp only [State.redecideWith]
@[simp] theorem State.redecideWith_stats (ch : Pin → Bool) (s : State) :
    (s.redecideWith ch).stats = s.stats := by
  dsimp only [State.redecideWith]
@[simp] theorem State.redecideWith_hold (ch : Pin → Bool) (s : State) :
    (s.redecideWith ch).hold = s.hold := by
  dsimp only [State.redecideWith]
@[simp] theorem State.redecideWith_freeCount (ch : Pin → Bool) (s : State) :
    (s.redecideWith ch).freeCount = s.freeCount := by
  dsimp only [State.redecideWith]
@[simp] theorem State.redecideWith_pending (ch : Pin → Bool) (s : State) :
    (s.redecideWith ch).pending = s.pending := by
  dsimp only [State.redecideWith]

/-! ### `State.redecide` -/

@[simp] theorem State.redecide_banks (s : State) :
    s.redecide.banks = s.banks := by
  dsimp only [State.redecide, State.redecideWith]
@[simp] theorem State.redecide_store (s : State) :
    s.redecide.store = s.store := by
  dsimp only [State.redecide, State.redecideWith]
@[simp] theorem State.redecide_pins (s : State) :
    s.redecide.pins = { s.pins with owner := Vector.ofFn fun n => s.deciding n } := by
  dsimp only [State.redecide, State.redecideWith]
@[simp] theorem State.redecide_pg (s : State) :
    s.redecide.pg = s.pg := by
  dsimp only [State.redecide, State.redecideWith]
@[simp] theorem State.redecide_cc (s : State) :
    s.redecide.cc = s.cc := by
  dsimp only [State.redecide, State.redecideWith]
@[simp] theorem State.redecide_queue (s : State) :
    s.redecide.queue = s.queue := by
  dsimp only [State.redecide, State.redecideWith]
@[simp] theorem State.redecide_mc (s : State) :
    s.redecide.mc = s.mc := by
  dsimp only [State.redecide, State.redecideWith]
@[simp] theorem State.redecide_mx (s : State) :
    s.redecide.mx = s.mx := by
  dsimp only [State.redecide, State.redecideWith]
@[simp] theorem State.redecide_fp (s : State) :
    s.redecide.fp = s.fp := by
  dsimp only [State.redecide, State.redecideWith]
@[simp] theorem State.redecide_link (s : State) :
    s.redecide.link = s.link := by
  dsimp only [State.redecide, State.redecideWith]
@[simp] theorem State.redecide_stats (s : State) :
    s.redecide.stats = s.stats := by
  dsimp only [State.redecide, State.redecideWith]
@[simp] theorem State.redecide_hold (s : State) :
    s.redecide.hold = s.hold := by
  dsimp only [State.redecide, State.redecideWith]
@[simp] theorem State.redecide_freeCount (s : State) :
    s.redecide.freeCount = s.freeCount := by
  dsimp only [State.redecide, State.redecideWith]
@[simp] theorem State.redecide_pending (s : State) :
    s.redecide.pending = s.pending := by
  dsimp only [State.redecide, State.redecideWith]

/-! ### `State.sampled` -/

@[simp] theorem State.sampled_banks (raw : PinWord) (s : State) :
    (s.sampled raw).banks = s.banks := by
  dsimp only [State.sampled]
@[simp] theorem State.sampled_store (raw : PinWord) (s : State) :
    (s.sampled raw).store = s.store := by
  dsimp only [State.sampled]
@[simp] theorem State.sampled_pins (raw : PinWord) (s : State) :
    (s.sampled raw).pins = s.pins := by
  dsimp only [State.sampled]
@[simp] theorem State.sampled_pg (raw : PinWord) (s : State) :
    (s.sampled raw).pg = s.pg := by
  dsimp only [State.sampled]
@[simp] theorem State.sampled_cc (raw : PinWord) (s : State) :
    (s.sampled raw).cc = s.cc := by
  dsimp only [State.sampled]
@[simp] theorem State.sampled_queue (raw : PinWord) (s : State) :
    (s.sampled raw).queue = s.queue := by
  dsimp only [State.sampled]
@[simp] theorem State.sampled_mc (raw : PinWord) (s : State) :
    (s.sampled raw).mc = s.mc := by
  dsimp only [State.sampled]
@[simp] theorem State.sampled_mx (raw : PinWord) (s : State) :
    (s.sampled raw).mx = s.mx := by
  dsimp only [State.sampled]
@[simp] theorem State.sampled_fp (raw : PinWord) (s : State) :
    (s.sampled raw).fp = s.fp := by
  dsimp only [State.sampled]
@[simp] theorem State.sampled_link (raw : PinWord) (s : State) :
    (s.sampled raw).link = s.link := by
  dsimp only [State.sampled]
@[simp] theorem State.sampled_hold (raw : PinWord) (s : State) :
    (s.sampled raw).hold = s.hold := by
  dsimp only [State.sampled]
@[simp] theorem State.sampled_freeCount (raw : PinWord) (s : State) :
    (s.sampled raw).freeCount = s.freeCount := by
  dsimp only [State.sampled]
@[simp] theorem State.sampled_pending (raw : PinWord) (s : State) :
    (s.sampled raw).pending = s.pending := by
  dsimp only [State.sampled]

/-! ### `State.deliverEdge` -/

@[simp] theorem State.deliverEdge_banks (n : Pin) (rise : Bool) (s : State) :
    (s.deliverEdge n rise).banks = s.banks := by
  dsimp only [State.deliverEdge]
@[simp] theorem State.deliverEdge_store (n : Pin) (rise : Bool) (s : State) :
    (s.deliverEdge n rise).store = s.store := by
  dsimp only [State.deliverEdge]
@[simp] theorem State.deliverEdge_pins (n : Pin) (rise : Bool) (s : State) :
    (s.deliverEdge n rise).pins = s.pins := by
  dsimp only [State.deliverEdge]
@[simp] theorem State.deliverEdge_sampler (n : Pin) (rise : Bool) (s : State) :
    (s.deliverEdge n rise).sampler = s.sampler := by
  dsimp only [State.deliverEdge]
@[simp] theorem State.deliverEdge_pg (n : Pin) (rise : Bool) (s : State) :
    (s.deliverEdge n rise).pg = s.pg := by
  dsimp only [State.deliverEdge]
@[simp] theorem State.deliverEdge_mc (n : Pin) (rise : Bool) (s : State) :
    (s.deliverEdge n rise).mc = s.mc := by
  dsimp only [State.deliverEdge]
@[simp] theorem State.deliverEdge_mx (n : Pin) (rise : Bool) (s : State) :
    (s.deliverEdge n rise).mx = s.mx := by
  dsimp only [State.deliverEdge]
@[simp] theorem State.deliverEdge_fp (n : Pin) (rise : Bool) (s : State) :
    (s.deliverEdge n rise).fp = s.fp := by
  dsimp only [State.deliverEdge]
@[simp] theorem State.deliverEdge_link (n : Pin) (rise : Bool) (s : State) :
    (s.deliverEdge n rise).link = s.link := by
  dsimp only [State.deliverEdge]
@[simp] theorem State.deliverEdge_stats (n : Pin) (rise : Bool) (s : State) :
    (s.deliverEdge n rise).stats = s.stats := by
  dsimp only [State.deliverEdge]
@[simp] theorem State.deliverEdge_hold (n : Pin) (rise : Bool) (s : State) :
    (s.deliverEdge n rise).hold = s.hold := by
  dsimp only [State.deliverEdge]
@[simp] theorem State.deliverEdge_freeCount (n : Pin) (rise : Bool) (s : State) :
    (s.deliverEdge n rise).freeCount = s.freeCount := by
  dsimp only [State.deliverEdge]
@[simp] theorem State.deliverEdge_pending (n : Pin) (rise : Bool) (s : State) :
    (s.deliverEdge n rise).pending = s.pending := by
  dsimp only [State.deliverEdge]

/-! ### `State.enterFallback` -/

@[simp] theorem State.enterFallback_banks (c : Cause) (s : State) :
    (s.enterFallback c).banks = s.banks := by
  dsimp only [State.enterFallback, State.redecide, State.redecideWith]
@[simp] theorem State.enterFallback_store (c : Cause) (s : State) :
    (s.enterFallback c).store = s.store := by
  dsimp only [State.enterFallback, State.redecide, State.redecideWith]
@[simp] theorem State.enterFallback_pg (c : Cause) (s : State) :
    (s.enterFallback c).pg = s.pg := by
  dsimp only [State.enterFallback, State.redecide, State.redecideWith]
@[simp] theorem State.enterFallback_cc (c : Cause) (s : State) :
    (s.enterFallback c).cc = s.cc := by
  dsimp only [State.enterFallback, State.redecide, State.redecideWith]
@[simp] theorem State.enterFallback_queue (c : Cause) (s : State) :
    (s.enterFallback c).queue = s.queue := by
  dsimp only [State.enterFallback, State.redecide, State.redecideWith]
@[simp] theorem State.enterFallback_mc (c : Cause) (s : State) :
    (s.enterFallback c).mc = { s.mc with mode := .fallback, cause := c, timer := none } := by
  dsimp only [State.enterFallback, State.redecide, State.redecideWith]
@[simp] theorem State.enterFallback_mx (c : Cause) (s : State) :
    (s.enterFallback c).mx = s.mx := by
  dsimp only [State.enterFallback, State.redecide, State.redecideWith]
@[simp] theorem State.enterFallback_fp (c : Cause) (s : State) :
    (s.enterFallback c).fp = s.fp := by
  dsimp only [State.enterFallback, State.redecide, State.redecideWith]
@[simp] theorem State.enterFallback_link (c : Cause) (s : State) :
    (s.enterFallback c).link = s.link := by
  dsimp only [State.enterFallback, State.redecide, State.redecideWith]
@[simp] theorem State.enterFallback_stats (c : Cause) (s : State) :
    (s.enterFallback c).stats = { s.stats with fallbackEntries := satInc s.stats.fallbackEntries } := by
  dsimp only [State.enterFallback, State.redecide, State.redecideWith]
@[simp] theorem State.enterFallback_hold (c : Cause) (s : State) :
    (s.enterFallback c).hold = s.hold := by
  dsimp only [State.enterFallback, State.redecide, State.redecideWith]
@[simp] theorem State.enterFallback_freeCount (c : Cause) (s : State) :
    (s.enterFallback c).freeCount = s.freeCount := by
  dsimp only [State.enterFallback, State.redecide, State.redecideWith]
@[simp] theorem State.enterFallback_pending (c : Cause) (s : State) :
    (s.enterFallback c).pending = s.pending := by
  dsimp only [State.enterFallback, State.redecide, State.redecideWith]

/-! ### `State.leaveFallback` -/

@[simp] theorem State.leaveFallback_banks (s : State) :
    s.leaveFallback.banks = s.banks := by
  dsimp only [State.leaveFallback, State.redecide, State.redecideWith, State.startTimer, State.policy]
@[simp] theorem State.leaveFallback_store (s : State) :
    s.leaveFallback.store = s.store := by
  dsimp only [State.leaveFallback, State.redecide, State.redecideWith, State.startTimer, State.policy]
@[simp] theorem State.leaveFallback_pg (s : State) :
    s.leaveFallback.pg = s.pg := by
  dsimp only [State.leaveFallback, State.redecide, State.redecideWith, State.startTimer, State.policy]
@[simp] theorem State.leaveFallback_cc (s : State) :
    s.leaveFallback.cc = s.cc := by
  dsimp only [State.leaveFallback, State.redecide, State.redecideWith, State.startTimer, State.policy]
@[simp] theorem State.leaveFallback_queue (s : State) :
    s.leaveFallback.queue = s.queue := by
  dsimp only [State.leaveFallback, State.redecide, State.redecideWith, State.startTimer, State.policy]
@[simp] theorem State.leaveFallback_mc (s : State) :
    s.leaveFallback.mc = { s.mc with mode := .running, timer := some (s.policy.timeout * Config.timeoutUnit) } := by
  dsimp only [State.leaveFallback, State.redecide, State.redecideWith, State.startTimer, State.policy]
@[simp] theorem State.leaveFallback_mx (s : State) :
    s.leaveFallback.mx = s.mx := by
  dsimp only [State.leaveFallback, State.redecide, State.redecideWith, State.startTimer, State.policy]
@[simp] theorem State.leaveFallback_fp (s : State) :
    s.leaveFallback.fp = s.fp := by
  dsimp only [State.leaveFallback, State.redecide, State.redecideWith, State.startTimer, State.policy]
@[simp] theorem State.leaveFallback_link (s : State) :
    s.leaveFallback.link = s.link := by
  dsimp only [State.leaveFallback, State.redecide, State.redecideWith, State.startTimer, State.policy]
@[simp] theorem State.leaveFallback_stats (s : State) :
    s.leaveFallback.stats = s.stats := by
  dsimp only [State.leaveFallback, State.redecide, State.redecideWith, State.startTimer, State.policy]
@[simp] theorem State.leaveFallback_hold (s : State) :
    s.leaveFallback.hold = s.hold := by
  dsimp only [State.leaveFallback, State.redecide, State.redecideWith, State.startTimer, State.policy]
@[simp] theorem State.leaveFallback_freeCount (s : State) :
    s.leaveFallback.freeCount = s.freeCount := by
  dsimp only [State.leaveFallback, State.redecide, State.redecideWith, State.startTimer, State.policy]
@[simp] theorem State.leaveFallback_pending (s : State) :
    s.leaveFallback.pending = s.pending := by
  dsimp only [State.leaveFallback, State.redecide, State.redecideWith, State.startTimer, State.policy]

/-! ### `State.releaseAll` -/

@[simp] theorem State.releaseAll_banks (s : State) :
    s.releaseAll.banks = s.banks := by
  dsimp only [State.releaseAll, State.redecide, State.redecideWith]
@[simp] theorem State.releaseAll_store (s : State) :
    s.releaseAll.store = s.store := by
  dsimp only [State.releaseAll, State.redecide, State.redecideWith]
@[simp] theorem State.releaseAll_pg (s : State) :
    s.releaseAll.pg = s.pg := by
  dsimp only [State.releaseAll, State.redecide, State.redecideWith]
@[simp] theorem State.releaseAll_cc (s : State) :
    s.releaseAll.cc = s.cc := by
  dsimp only [State.releaseAll, State.redecide, State.redecideWith]
@[simp] theorem State.releaseAll_queue (s : State) :
    s.releaseAll.queue = s.queue := by
  dsimp only [State.releaseAll, State.redecide, State.redecideWith]
@[simp] theorem State.releaseAll_mc (s : State) :
    s.releaseAll.mc = s.mc := by
  dsimp only [State.releaseAll, State.redecide, State.redecideWith]
@[simp] theorem State.releaseAll_mx (s : State) :
    s.releaseAll.mx = s.mx := by
  dsimp only [State.releaseAll, State.redecide, State.redecideWith]
@[simp] theorem State.releaseAll_fp (s : State) :
    s.releaseAll.fp = s.fp := by
  dsimp only [State.releaseAll, State.redecide, State.redecideWith]
@[simp] theorem State.releaseAll_link (s : State) :
    s.releaseAll.link = s.link := by
  dsimp only [State.releaseAll, State.redecide, State.redecideWith]
@[simp] theorem State.releaseAll_stats (s : State) :
    s.releaseAll.stats = s.stats := by
  dsimp only [State.releaseAll, State.redecide, State.redecideWith]
@[simp] theorem State.releaseAll_hold (s : State) :
    s.releaseAll.hold = s.hold := by
  dsimp only [State.releaseAll, State.redecide, State.redecideWith]
@[simp] theorem State.releaseAll_freeCount (s : State) :
    s.releaseAll.freeCount = s.freeCount := by
  dsimp only [State.releaseAll, State.redecide, State.redecideWith]
@[simp] theorem State.releaseAll_pending (s : State) :
    s.releaseAll.pending = s.pending := by
  dsimp only [State.releaseAll, State.redecide, State.redecideWith]

end Sys2Proof.Machine
end

