-- ==== Sys2Proof/Laws/Pins.lean ====
section
/-! SUPPORT. What deciding the pins anew does, and what entering and leaving FALLBACK do. -/

namespace Sys2Proof.Machine

/-- Bit n of a pin word built from `f` is `f` at Pn. -/
theorem pinWord_getLsbD (f : Pin → Bool) (n : Pin) : (pinWord f).getLsbD n.val = f n := by
  simp only [pinWord, BitVec.getLsbD_setWidth, n.isLt, decide_true, Bool.true_and, BitVec.getLsbD_ofBoolListLE]
  simp [List.getD_eq_getElem?_getD]

/-- A pin's deciding source depends on its force record, the mode, its row and the pulse generators only. -/
theorem State.deciding_congr {s t : State} {n : Pin} (hf : t.pins.force[n] = s.pins.force[n])
    (hm : t.mc.mode = .fallback ↔ s.mc.mode = .fallback) (hr : t.pinRow n = s.pinRow n)
    (hp : claimOwner t.pg = claimOwner s.pg) : t.deciding n = s.deciding n := by
  simp [State.deciding, hf, hm, hr, hp]

/-- The claims of the pulse generators depend on their activity only. -/
theorem claimOwner_congr {pg pg' : Vector PulseGen 4} (h : ∀ n : Unit4, pg'[n].active = pg[n].active) :
    claimOwner pg' = claimOwner pg := by
  have h0 : pg'[0].active = pg[0].active := h 0
  have h1 : pg'[1].active = pg[1].active := h 1
  have h2 : pg'[2].active = pg[2].active := h 2
  have h3 : pg'[3].active = pg[3].active := h 3
  funext c
  simp only [claimOwner, h0, h1, h2, h3]

/-- Table 3-1: what a claimant claims names the claimant. -/
theorem claimOwner_code {pg : Vector PulseGen 4} {c : Byte} {o : Owner} (h : claimOwner pg c = some o) :
    o.code = c := by
  unfold claimOwner at h
  repeat' split at h
  all_goals first
    | cases h
      subst_vars
      rfl
    | cases h

/-- Of two claims on a list that lead to the same claimant, one between them, claimant by claimant, leads to it as
well. -/
theorem findSome?_between {f g h : Byte → Option Owner} (hg : ∀ c, g c = f c ∨ g c = h c)
    (hf : ∀ c o, f c = some o → o.code = c) (hh : ∀ c o, h c = some o → o.code = c) :
    ∀ l : List Byte, l.findSome? f = l.findSome? h → l.findSome? g = l.findSome? f
  | [], _ => rfl
  | c :: l, he => by
    have later : ∀ (p q : Byte → Option Owner) o, (∀ c o, p c = some o → o.code = c) → p c = none →
        (∀ c o, q c = some o → o.code = c) → q c = some o → l.findSome? p ≠ some o := by
      intro p q o hp hn hq hs hl
      obtain ⟨d, -, hd⟩ := List.exists_of_findSome?_eq_some hl
      rw [← hp d o hd, hq c o hs, hn] at hd
      cases hd
    simp only [List.findSome?_cons] at he ⊢
    cases hfc : f c with
    | none =>
      cases hhc : h c with
      | none =>
        have hgc : g c = none := (hg c).elim (·.trans hfc) (·.trans hhc)
        simp only [hfc, hhc, hgc] at he ⊢
        exact findSome?_between hg hf hh l he
      | some b =>
        simp only [hfc, hhc] at he
        exact absurd he (later f h b hf hfc hh hhc)
    | some a =>
      cases hhc : h c with
      | none =>
        simp only [hfc, hhc] at he
        exact absurd he.symm (later h f a hh hhc hf hfc)
      | some b =>
        simp only [hfc, hhc, Option.some.injEq] at he
        subst he
        have hgc : g c = some a := (hg c).elim (·.trans hfc) (·.trans hhc)
        simp only [hgc]

/-- Claims between two others: each unit is as active as in one of them. -/
theorem claimOwner_between {p q r : Vector PulseGen 4}
    (h : ∀ k : Unit4, q[k].active = p[k].active ∨ q[k].active = r[k].active) (c : Byte) :
    claimOwner q c = claimOwner p c ∨ claimOwner q c = claimOwner r c := by
  have h0 : q[0].active = p[0].active ∨ q[0].active = r[0].active := h 0
  have h1 : q[1].active = p[1].active ∨ q[1].active = r[1].active := h 1
  have h2 : q[2].active = p[2].active ∨ q[2].active = r[2].active := h 2
  have h3 : q[3].active = p[3].active ∨ q[3].active = r[3].active := h 3
  unfold claimOwner
  by_cases c1 : c = 1
  · simp [c1]
  by_cases c2 : c = 2
  · subst c2
    rcases h0 with e | e <;> simp [e]
  by_cases c3 : c = 3
  · subst c3
    rcases h1 with e | e <;> simp [e]
  by_cases c4 : c = 4
  · subst c4
    rcases h2 with e | e <;> simp [e]
  by_cases c5 : c = 5
  · subst c5
    rcases h3 with e | e <;> simp [e]
  · simp only [if_neg c1, if_neg c2, if_neg c3, if_neg c4, if_neg c5, or_self]

/-- A pin that has the same deciding source in `s` and in `u` has it in a state between them as well. -/
theorem State.deciding_between {s t u : State} {n : Pin} (hf : t.pins.force[n] = s.pins.force[n])
    (hf' : u.pins.force[n] = s.pins.force[n]) (hm : t.mc.mode = s.mc.mode) (hm' : u.mc.mode = s.mc.mode)
    (hr : t.pinRow n = s.pinRow n) (hr' : u.pinRow n = s.pinRow n)
    (hp : ∀ k : Unit4, t.pg[k].active = s.pg[k].active ∨ t.pg[k].active = u.pg[k].active)
    (h : u.deciding n = s.deciding n) : t.deciding n = s.deciding n := by
  unfold State.deciding at h ⊢
  rw [hf', hm', hr'] at h
  rw [hf, hm, hr]
  split
  · rfl
  · rename_i hforce
    split
    · rfl
    · rename_i hmode
      rw [if_neg hforce, if_neg hmode, if_neg hforce, if_neg hmode] at h
      have idle : ∀ {pg : Vector PulseGen 4} {l : List Byte}, l.findSome? (claimOwner pg) ≠ some .idle := by
        intro pg l hl
        obtain ⟨d, -, hd⟩ := List.exists_of_findSome?_eq_some hl
        obtain rfl := claimOwner_code hd
        cases hd
      rw [findSome?_between (f := claimOwner s.pg) (h := claimOwner u.pg) (claimOwner_between hp)
        (fun _ _ => claimOwner_code) (fun _ _ => claimOwner_code)]
      cases ha : (s.pinRow n).claimants.findSome? (claimOwner s.pg) with
      | none =>
        cases hb : (s.pinRow n).claimants.findSome? (claimOwner u.pg) with
        | none => rfl
        | some b =>
          rw [ha, hb] at h
          rw [show b = .idle from h] at hb
          exact absurd hb idle
      | some a =>
        cases hb : (s.pinRow n).claimants.findSome? (claimOwner u.pg) with
        | none =>
          rw [ha, hb] at h
          rw [show a = .idle from h.symm] at ha
          exact absurd ha idle
        | some b =>
          rw [ha, hb] at h
          rw [show b = a from h]

@[simp] theorem State.deciding_redecideWith (ch : Pin → Bool) (s : State) (n : Pin) :
    (s.redecideWith ch).deciding n = s.deciding n := by
  unfold State.deciding State.pinRow
  simp

@[simp] theorem State.deciding_redecide (s : State) (n : Pin) : s.redecide.deciding n = s.deciding n :=
  State.deciding_redecideWith _ s n

@[simp] theorem State.redecideWith_owner (ch : Pin → Bool) (s : State) (n : Pin) :
    (s.redecideWith ch).pins.owner[n] = s.deciding n := by
  simp

@[simp] theorem State.redecideWith_settle (ch : Pin → Bool) (s : State) (n : Pin) :
    (s.redecideWith ch).sampler.settle[n] =
      if s.deciding n ≠ s.pins.owner[n] ∨ ch n = true then (s.pinRow n).settle else s.sampler.settle[n] := by
  simp [State.redecideWith]

@[simp] theorem State.redecide_owner (s : State) (n : Pin) : s.redecide.pins.owner[n] = s.deciding n :=
  State.redecideWith_owner _ s n

@[simp] theorem State.redecide_settle (s : State) (n : Pin) :
    s.redecide.sampler.settle[n] =
      if s.deciding n ≠ s.pins.owner[n] then (s.pinRow n).settle else s.sampler.settle[n] := by
  rw [State.redecide, State.redecideWith_settle]
  simp

@[simp] theorem State.pinRow_redecide (s : State) (n : Pin) : s.redecide.pinRow n = s.pinRow n := by
  simp [State.pinRow]

/-- Deciding anew touches the owners and the settle counts only. -/
theorem State.redecideWith_frame (ch : Pin → Bool) (s : State) :
    s.redecideWith ch = { s with
      pins := { s.pins with owner := (s.redecideWith ch).pins.owner }
      sampler := { s.sampler with settle := (s.redecideWith ch).sampler.settle } } := by
  dsimp only [State.redecideWith]

/-- Deciding anew touches the owners and the settle counts only. -/
theorem State.redecide_frame (s : State) :
    s.redecide = { s with
      pins := { s.pins with owner := s.redecide.pins.owner }
      sampler := { s.sampler with settle := s.redecide.sampler.settle } } :=
  State.redecideWith_frame _ s

/-- After deciding anew every pin has its deciding source, with a settle mark where the owner changed. -/
theorem State.redecide_decided {s t : State} (ho : t.pins.owner = s.pins.owner)
    (hs : t.sampler.settle = s.sampler.settle) : DecidedAnew s t.redecide := by
  intro n
  refine ⟨by rw [State.redecide_owner, State.deciding_redecide], ?_⟩
  rw [State.redecide_settle, State.redecide_owner, State.pinRow_redecide, ho, hs]

/-- The node at an entry to FALLBACK, before its pins are decided anew. -/
def State.fallen (c : Cause) (s : State) : State :=
  { s with
    mc := { s.mc with mode := .fallback, cause := c, timer := none }
    stats := { s.stats with fallbackEntries := satInc s.stats.fallbackEntries }
    pins := { s.pins with held := Vector.ofFn fun n => some (s.pinState n) } }

theorem State.enterFallback_eq (c : Cause) (s : State) : s.enterFallback c = (s.fallen c).redecide := rfl

/-- What an entry to FALLBACK does. -/
theorem State.enterFallback_spec (c : Cause) (s : State) : EntersFallback c s (s.enterFallback c) := by
  have hd : ∀ n, (s.fallen c).deciding n = if s.pins.force[n].isSome then .force else .fallback := by
    intro n
    simp [State.deciding, State.fallen]
  rw [State.enterFallback_eq]
  refine ⟨by simp [State.fallen], by simp [State.fallen], by simp [State.fallen], fun n => ⟨?_, ?_, ?_⟩⟩
  · simp [State.fallen]
  · rw [State.redecide_owner, hd]
  · rw [State.redecide_settle, State.redecide_owner, hd,
      show (s.fallen c).pins.owner = s.pins.owner by dsimp only [State.fallen],
      show (s.fallen c).sampler = s.sampler by dsimp only [State.fallen],
      show (s.fallen c).pinRow n = s.pinRow n by simp only [State.fallen, State.pinRow]]

/-- What an entry to FALLBACK leaves alone. -/
theorem State.enterFallback_frame (c : Cause) (s : State) :
    s.enterFallback c = { s with
      mc := (s.enterFallback c).mc, pins := (s.enterFallback c).pins
      sampler := { s.sampler with settle := (s.enterFallback c).sampler.settle }
      stats := { s.stats with fallbackEntries := (s.enterFallback c).stats.fallbackEntries } } := by
  dsimp only [State.enterFallback, State.redecide, State.redecideWith]

/-- The node at a departure from FALLBACK, before its pins are decided anew. -/
def State.risen (s : State) : State :=
  { s with mc := { s.mc with mode := .running, timer := some (s.policy.timeout * Config.timeoutUnit) } }

theorem State.leaveFallback_eq (s : State) : s.leaveFallback = s.risen.redecide := rfl

/-- What a departure from FALLBACK does. -/
theorem State.leaveFallback_spec (s : State) : LeavesFallback s s.leaveFallback := by
  rw [State.leaveFallback_eq]
  exact ⟨by simp [State.risen, Config.timeoutUnit], by simp [State.risen], by simp [State.risen],
    State.redecide_decided rfl rfl⟩

/-- What a departure from FALLBACK leaves alone. -/
theorem State.leaveFallback_frame (s : State) :
    s.leaveFallback = { s with
      mc := s.leaveFallback.mc, pins := { s.pins with owner := s.leaveFallback.pins.owner }
      sampler := { s.sampler with settle := s.leaveFallback.sampler.settle } } := by
  dsimp only [State.leaveFallback, State.redecide, State.redecideWith, State.startTimer]

end Sys2Proof.Machine
end

