-- ==== Sys2Proof/Laws/Line.lean ====
section
/-! SUPPORT. The line to OUT: what leaves it, and what is kept on it. -/

namespace Sys2Proof.Machine

/-- What leaves a line while idles arrive is idles at its head, each with a forwarding delay of symbols behind. -/
theorem drain_spec (line : List OutSym) :
    ∃ gone, line = gone ++ drain line ∧ (∀ x ∈ gone, x.isIdle = true) ∧
      (gone ≠ [] → Config.forwardDelay ≤ (drain line).length) := by
  induction line with
  | nil => exact ⟨[], rfl, by simp, by simp⟩
  | cons x xs ih =>
    by_cases hx : x.isIdle = true ∧ Config.forwardDelay ≤ xs.length
    · obtain ⟨g, h1, h2, h3⟩ := ih
      have hd : drain (x :: xs) = drain xs := by rw [drain, if_pos hx]
      refine ⟨x :: g, by rw [hd, List.cons_append, ← h1], ?_, fun _ => ?_⟩
      · intro y hy
        rcases List.mem_cons.1 hy with rfl | hy
        · exact hx.1
        · exact h2 y hy
      · rw [hd]
        by_cases hg : g = []
        · subst hg
          rw [List.nil_append] at h1
          rw [← h1]
          exact hx.2
        · exact h3 hg
    · exact ⟨[], by rw [drain, if_neg hx, List.nil_append], by simp, by simp⟩

/-- A symbol that is no idle stays on the line. -/
theorem mem_drain {x : OutSym} {line : List OutSym} (hx : x ∈ line) (hi : x.isIdle = false) : x ∈ drain line := by
  obtain ⟨g, h1, h2, -⟩ := drain_spec line
  rw [h1] at hx
  rcases List.mem_append.1 hx with h | h
  · simp [h2 x h] at hi
  · exact h

/-- The number of frame ends on a line is not changed by what leaves it. -/
theorem countP_isEnding_drain (line : List OutSym) :
    (drain line).countP OutSym.isEnding = line.countP OutSym.isEnding := by
  obtain ⟨g, h1, h2, -⟩ := drain_spec line
  have hg : g.countP OutSym.isEnding = 0 := by
    rw [List.countP_eq_zero]
    intro x hx
    have := h2 x hx
    cases x <;> simp_all [OutSym.isIdle, OutSym.isEnding]
  have h := congrArg (List.countP OutSym.isEnding) h1
  rw [List.countP_append, hg, Nat.zero_add] at h
  exact h.symm

/-- The first delimiter of a line, and what is behind it. -/
theorem firstDelimiter_append (front rest : List OutSym) (x : OutSym) (hx : x = .startDelimiter ∨ x.isEnding = true)
    (h : ∀ y ∈ front, y ≠ .startDelimiter ∧ y.isEnding = false) :
    firstDelimiter (front ++ x :: rest) = some (x, rest) := by
  induction front with
  | nil => simp [firstDelimiter, hx]
  | cons y ys ih =>
    have hy := h y (by simp)
    simp [firstDelimiter, hy, ih fun z hz => h z (by simp [hz])]

/-- A byte that reaches an UP link changes the run of symbol errors only. -/
theorem State.validLink_up {s : State} (h : s.link.inState = .up) (i : Bool) :
    s.validLink i = { s with link := { s.link with errorRun := 0 } } := by
  simp [State.validLink, LinkInterface.valid, h]

/-- The trailer position of a frame that is not over its expected length is left alone. -/
theorem State.poisonIfExcess_of_not_due {f : Frame} {s : State} (h : f.excessDue = false) :
    s.poisonIfExcess f = s := by
  unfold State.poisonIfExcess
  unfold Frame.excessDue at h
  split
  · rename_i t L hg
    rw [hg] at h
    simp only [decide_eq_false_iff_not] at h
    rw [if_neg (by omega)]
  · rfl

/-- R188: the abort at a link-down event leaves no frame in passage. -/
theorem State.abortAtLinkDown_frame (s : State) : s.abortAtLinkDown.fp.frame = none := by
  unfold State.abortAtLinkDown
  split
  · assumption
  · simp [State.abortFrame]

/-- A link-down event after the abort that it brings ends as it does alone (entry 24). -/
theorem State.linkDown_abortAtLinkDown (s : State) : s.abortAtLinkDown.linkDown = s.linkDown := by
  have h : s.abortAtLinkDown.abortAtLinkDown = s.abortAtLinkDown := by
    rw [State.abortAtLinkDown, State.abortAtLinkDown_frame]
  rw [State.linkDown, h]
  rfl

end Sys2Proof.Machine
end

