-- ==== Sys2Proof/Laws/Segments.lean ====
section
/-! SUPPORT. What a request does at the node it meets, by the state of the exchange slot; how rows are stored and
read back. -/

namespace Sys2Proof.Machine

/-! ### Requests -/

/-- A request to this node in a segment that is handed over is handled. -/
theorem State.withRequest_of_meets {f : Frame} {code : Byte} {rq : Request} {s : State} (h : s.meets f code rq)
    (handle : State → Option Response × State) :
    s.withRequest code rq handle = match handle s with
      | (none, t) => t.forwardSegment f (requestBytes code rq)
      | (some r, t) => t.answerSegment f (requestBytes code rq) r s.mc.address := by
  obtain ⟨⟨h1, h2⟩, h3, h4, h5⟩ := h
  simp only [State.withRequest, h1, h2, h3, State.requestArrives, h4, h5, and_self, if_true, Bool.false_eq_true,
    if_false]
  all_goals rfl

/-- A request that is not handed over or is to another address is forwarded. -/
theorem State.withRequest_of_others {f : Frame} {code : Byte} {rq : Request} {s : State} (h : s.passing f)
    (hd : f.segmentDue (requestBytes code rq) = true) (ho : ¬ (s.handsOver f = true ∧ rq.address = s.mc.address))
    (handle : State → Option Response × State) :
    s.withRequest code rq handle = s.forwardSegment f (requestBytes code rq) := by
  obtain ⟨h1, h2⟩ := h
  simp only [State.withRequest, h1, h2, hd, State.requestArrives, if_neg ho, if_true, Bool.false_eq_true, if_false]

/-- R157. -/
theorem replayable_working {code tag op : Byte} {rq : Request} {s : State} (h : s.mx.slot = .working tag op)
    (perform : State → Answer × State) : replayable code rq perform s = (none, s.countLeft) := by
  simp only [replayable, h]

/-- R158. -/
theorem replayable_answering {code : Byte} {rq : Request} {r : Response} {s : State} (h : s.mx.slot = .answering r)
    (perform : State → Answer × State) :
    replayable code rq perform s = (some { r with flags := r.flags ||| flDisplaced }, s.displace) := by
  simp only [replayable, h]

/-- R162. -/
theorem replayable_replay {code : Byte} {rq : Request} {r : Response} {s : State} (h : s.mx.slot = .idle)
    (hl : s.mx.last = some r) (ht : r.tag = rq.tag) (hc : r.code = code) (perform : State → Answer × State) :
    replayable code rq perform s = (some { r with flags := r.flags ||| flReplay }, s.countReplay) := by
  simp only [replayable, h, hl, replays, Option.filter, ht, hc, beq_self_eq_true, Bool.and_self, if_true]

/-- R156, cases 2 to 4. -/
theorem replayable_fresh {code : Byte} {rq : Request} {s : State} (h : s.mx.slot = .idle)
    (hl : ∀ r, s.mx.last = some r → ¬ (r.tag = rq.tag ∧ r.code = code)) (perform : State → Answer × State) :
    replayable code rq perform s = executeRequest code rq perform s := by
  have hn : replays s.mx.last code rq = none := by
    cases hs : s.mx.last with
    | none => rfl
    | some r =>
      have hr := hl r hs
      simp only [replays, Option.filter, Bool.and_eq_true, beq_iff_eq, if_neg hr]
  simp only [replayable, h, hn]

/-- A replayable or long request that meets an IDLE slot and is no replay is executed and answered. -/
theorem State.withRequest_executes {f : Frame} {code : Byte} {rq : Request} {s : State} (h : s.meetsIdle f code rq)
    (perform : State → Answer × State) (a : Answer) (u : State) (hp : perform s.countConsumed = (a, u)) :
    s.withRequest code rq (replayable code rq perform) =
      if a.recorded then State.recordAndAnswer f code rq (a.response code rq) s.mc.address u
      else u.answerSegment f (requestBytes code rq) (a.response code rq) s.mc.address := by
  obtain ⟨hm, hi, hl⟩ := h
  rw [State.withRequest_of_meets hm, replayable_fresh hi hl]
  simp only [executeRequest, hp]
  split <;> rfl

/-- Every replayable or long request is a request with its code at the front of `replayable`. -/
theorem exec_replayableOrLong {c : Instr} {code : Byte} {rq : Request} (h : replayableOrLong c = some (code, rq)) :
    ∃ perform, ∀ s, exec c s = .next (s.withRequest code rq (replayable code rq perform)) := by
  cases c <;> simp only [replayableOrLong, Option.some.injEq, Prod.mk.injEq, reduceCtorEq] at h <;>
    obtain ⟨rfl, rfl⟩ := h <;> exact ⟨_, fun s => rfl⟩

/-- Every request is a request with its code at the front of a handler. -/
theorem exec_anyRequest {c : Instr} {code : Byte} {rq : Request} (h : anyRequest c = some (code, rq)) :
    ∀ s, exec c s = .next (s.withRequest code rq (handleRequest code rq)) := by
  cases c <;> simp only [anyRequest, replayableOrLong, Option.some.injEq, Prod.mk.injEq, reduceCtorEq] at h
  case badOpcode code' rq' =>
    split at h
    · cases h
    · rename_i hk
      obtain ⟨rfl, rfl⟩ := Prod.mk.inj (Option.some.inj h)
      intro s
      have hk' := hk
      simp only [knownCodes, List.contains_cons, List.contains_nil, Bool.or_false, Bool.or_eq_true, beq_iff_eq,
        not_or] at hk'
      simp only [exec, execBadOpcode, if_neg hk, handleRequest, hk', if_false]
  all_goals
    obtain ⟨rfl, rfl⟩ := h
    exact fun s => rfl

/-- R173: the DISARMED flag, 0x04, when S was present. -/
theorem disarmedFlag_eq (s : State) : disarmedFlag s = if s.banks.armed = none then 0 else 0x04 := by
  unfold disarmedFlag
  by_cases h : s.banks.armed = none
  · rw [if_pos h, h]
    rfl
  · rw [if_neg h, if_pos (Option.isSome_iff_ne_none.2 h)]
    rfl

/-! ### Rows -/

@[simp] theorem BankUnit.activeBank_setStaged (u : BankUnit) (b : Bank) :
    (u.setStaged b).activeBank = u.activeBank := by
  cases h : u.active <;> simp [BankUnit.setStaged, BankUnit.activeBank, BankUnit.bank, h]

@[simp] theorem BankUnit.stagedBank_setStaged (u : BankUnit) (b : Bank) : (u.setStaged b).stagedBank = b := by
  cases h : u.active <;> simp [BankUnit.setStaged, BankUnit.stagedBank, BankUnit.bank, BankId.other, h]

@[simp] theorem BankUnit.active_setStaged (u : BankUnit) (b : Bank) : (u.setStaged b).active = u.active := by
  cases h : u.active <;> simp [BankUnit.setStaged, h]

@[simp] theorem BankUnit.gen_setStaged (u : BankUnit) (b : Bank) : (u.setStaged b).gen = u.gen := by
  cases h : u.active <;> simp [BankUnit.setStaged, h]

@[simp] theorem BankUnit.armed_setStaged (u : BankUnit) (b : Bank) : (u.setStaged b).armed = u.armed := by
  cases h : u.active <;> simp [BankUnit.setStaged, h]

@[simp] theorem BankUnit.longOp_setStaged (u : BankUnit) (b : Bank) : (u.setStaged b).longOp = u.longOp := by
  cases h : u.active <;> simp [BankUnit.setStaged, h]

/-- A row just stored is read back. -/
theorem Bank.row_setRow_same (b : Bank) (t : TableId) (i : Nat) (r : Row) (h : i < t.size) :
    (b.setRow t i r).row t i = r := by
  cases t <;> simp_all [Bank.row, Bank.setRow, TableId.size]

/-- Storing a row leaves the others alone. -/
theorem Bank.row_setRow_other (b : Bank) (t t' : TableId) (i j : Nat) (r : Row) (h : t' ≠ t ∨ j ≠ i) :
    (b.setRow t i r).row t' j = b.row t' j := by
  cases t <;> cases t' <;> simp_all [Bank.row, Bank.setRow] <;>
    first
      | rw [Vector.getElem?_setIfInBounds_ne (Ne.symm h)]
      | (by_cases hi : i = 0 <;> by_cases hj : j = 0 <;> simp_all)

/-- Storing rows from row `i` on leaves the rows before it and the other tables alone. -/
theorem Bank.row_setRows_other (t t' : TableId) (j : Nat) (rs : List Row) :
    ∀ (b : Bank) (i : Nat), ¬ (t' = t ∧ i ≤ j ∧ j < i + rs.length) → (b.setRows t i rs).row t' j = b.row t' j := by
  induction rs with
  | nil => intro b i _; rfl
  | cons r rs ih =>
    intro b i h
    rw [Bank.setRows, ih, Bank.row_setRow_other]
    · by_cases ht : t' = t
      · right
        intro hj
        exact h ⟨ht, by omega, by simp; omega⟩
      · exact Or.inl ht
    · rintro ⟨h1, h2, h3⟩
      exact h ⟨h1, by omega, by simp; omega⟩

/-- The rows just stored are read back. -/
theorem Bank.row_setRows_same (t : TableId) (rs : List Row) :
    ∀ (b : Bank) (i k : Nat) (hk : k < rs.length), i + rs.length ≤ t.size →
      (b.setRows t i rs).row t (i + k) = rs[k] := by
  induction rs with
  | nil => intro b i k hk; simp at hk
  | cons r rs ih =>
    intro b i k hk hs
    simp only [List.length_cons] at hs hk
    cases k with
    | zero =>
      rw [Bank.setRows, Bank.row_setRows_other _ _ _ _ _ _ (by omega)]
      exact Bank.row_setRow_same _ _ _ _ (by omega)
    | succ k =>
      have h := ih (b.setRow t i r) (i + 1) k (by omega) (by omega)
      rw [Bank.setRows, show i + (k + 1) = i + 1 + k by omega, h]
      rfl

end Sys2Proof.Machine
end

