-- ==== Sys2Proof/Laws/Blocks.lean ====
section
/-! SUPPORT. What the shared operations of the blocks do: pulse generators, event queue, validation, headers, the
switch, the entry of outputs, the delivery of edges. -/

namespace Sys2Proof.Machine

/-! ### Pulse generators -/

/-- A setpoint handed to a unit becomes its next values, whatever its state (R111). -/
theorem PulseGen.take_next (u : PulseGen) (v : Setpoint) :
    (u.take v).nextPeriod = v.period ∧ (u.take v).nextWidth = v.width := by
  simp only [PulseGen.take]
  split
  · exact ⟨rfl, rfl⟩
  · split <;> exact ⟨rfl, rfl⟩
  · split <;> exact ⟨rfl, rfl⟩

/-- A unit keeps the invariant of Table 6-1 when a setpoint is handed to it. -/
theorem PulseGen.Ok.take {row : Row} {v : Setpoint} {u : PulseGen} (h : u.Ok row v) (w : Setpoint) :
    (u.take w).Ok row w := by
  obtain ⟨h1, h2, h3⟩ := h
  refine ⟨(u.take_next w).1, (u.take_next w).2, ?_⟩
  cases hs : u.state <;> simp only [hs] at h3 <;> simp only [PulseGen.take, hs]
  · exact h3
  · by_cases hp : w.period = 0
    · rw [if_pos hp]
      exact ⟨h3.1, h3.2.1, hp, h3.2.2.2⟩
    · rw [if_neg hp]
      exact ⟨h3.1, hp, hp, Nat.zero_le _, fun _ => rfl⟩
  · by_cases hp : w.period = 0
    · rw [if_pos hp]
      exact ⟨h3.1, rfl, hp, rfl, rfl⟩
    · rw [if_neg hp]
      exact ⟨h3.1, h3.2.1, hp, h3.2.2.2⟩

/-- A unit keeps the invariant of Table 6-1 at an increment. -/
theorem PulseGen.Ok.tick {row : Row} {v : Setpoint} {u : PulseGen} (h : u.Ok row v) (atSwitch : Bool) :
    (u.tick atSwitch).Ok row v := by
  obtain ⟨h1, h2, h3⟩ := h
  cases hs : u.state <;> simp only [hs] at h3 <;> simp only [PulseGen.tick, hs, PulseGen.Ok]
  · exact ⟨h1, h2, h3⟩
  · exact ⟨h1, h2, h3⟩
  · refine ⟨h1, h2, ?_⟩
    split
    · rename_i heq
      split at heq <;> cases heq
    · rename_i heq
      split at heq <;> cases heq
    · rename_i heq
      refine ⟨h3.1, h3.2.1, h3.2.2.1, ?_, fun hf => absurd hf Bool.false_ne_true⟩
      split at heq <;> cases heq
      · exact h3.2.2.2.1
      · exact Nat.min_le_right _ _

/-- R121: for a unit that restarts, a switch and an increment at the same instant give the same outcome in either
order. -/
theorem PulseGen.restart_tick_comm (u : PulseGen) (row : Row) (atSwitch : Bool) :
    (u.restart row).tick true = { (u.tick atSwitch).restart row with restarted := false } := by
  have hn : (u.tick atSwitch).nextPeriod = u.nextPeriod ∧ (u.tick atSwitch).nextWidth = u.nextWidth := by
    unfold PulseGen.tick
    split <;> exact ⟨rfl, rfl⟩
  simp only [PulseGen.restart, hn.1, hn.2, PulseGen.halt, PulseGen.start]
  split
  · rfl
  · split <;> rfl

/-! ### Event queue -/

/-- R94: the queue stays consecutive when an edge is posted. -/
theorem EventQueue.Consecutive.post {q : EventQueue} (h : q.Consecutive) (n : Pin) (rise : Bool) (stamp : Word) :
    (q.post n rise stamp).Consecutive := by
  obtain ⟨h1, h2⟩ := h
  unfold EventQueue.post
  by_cases hl : q.records.length < Config.queuePlaces
  · rw [if_pos hl]
    have hl' : q.records.length < 32 := hl
    refine ⟨by simp; omega, fun i hi => ?_⟩
    simp only [List.length_append, List.length_cons, List.length_nil] at hi ⊢
    by_cases hlt : i < q.records.length
    · rw [List.getElem_append_left hlt, h2 i hlt,
        show q.records.length + (0 + 1) - i = q.records.length - i + 1 by omega, BitVec.ofNat_add]
      bv_omega
    · have he : i = q.records.length := by omega
      subst he
      rw [List.getElem_append_right (Nat.le_refl _)]
      simp only [Nat.sub_self, List.getElem_cons_zero, show q.records.length + (0 + 1) - q.records.length = 1 by omega]
      bv_omega
  · rw [if_neg hl]
    exact ⟨h1, h2⟩

/-- R95: the oldest number of a consecutive queue. -/
theorem EventQueue.Consecutive.oldest_eq {q : EventQueue} (h : q.Consecutive) :
    q.oldest = q.nextSeq - BitVec.ofNat 16 q.records.length := by
  unfold EventQueue.oldest
  cases hr : q.records with
  | nil => simp
  | cons r rs =>
    have h0 := h.2 0 (by rw [hr]; simp)
    simp only [hr, List.getElem_cons_zero, Nat.sub_zero] at h0
    exact h0

/-- R94: the queue stays consecutive when an acknowledgement is handed to it. -/
theorem EventQueue.Consecutive.ack {q : EventQueue} (h : q.Consecutive) (a : Half) : (q.ack a).1.Consecutive := by
  obtain ⟨h1, h2⟩ := h
  simp only [EventQueue.ack]
  split
  · refine ⟨by simp; omega, fun i hi => ?_⟩
    simp only [List.length_drop, List.getElem_drop] at hi ⊢
    rw [h2 _ (by omega)]
    congr 2
    omega
  · exact ⟨h1, h2⟩

/-! ### Validation -/

/-- The first row for which a check gives a reason. -/
theorem firstBad_eq_some {check : List Row → Nat → Row → Option Reason} (rows : List Row) :
    ∀ (e : List Row) (k i : Nat) (w : Reason), firstBad check e k rows = some (i, w) ↔
      ∃ j, ∃ h : j < rows.length, i = k + j ∧ check (e ++ rows.take j) i rows[j] = some w ∧
        ∀ j' (h' : j' < j), check (e ++ rows.take j') (k + j') rows[j'] = none := by
  induction rows with
  | nil => intro e k i w; simp [firstBad]
  | cons r rs ih =>
    intro e k i w
    simp only [firstBad]
    cases hc : check e k r with
    | some w' =>
      constructor
      · intro h
        simp only [Option.some.injEq, Prod.mk.injEq] at h
        obtain ⟨rfl, rfl⟩ := h
        exact ⟨0, by simp, by simp, by simpa using hc, fun j' h' => by omega⟩
      · rintro ⟨j, hj, hi, h1, h2⟩
        cases j with
        | zero =>
          simp only [Nat.add_zero, List.take_zero, List.append_nil, List.getElem_cons_zero] at hi h1
          subst hi
          rw [hc] at h1
          rw [Option.some.inj h1]
        | succ j =>
          have h := h2 0 (by omega)
          simp [hc] at h
    | none =>
      simp only
      rw [ih]
      constructor
      · rintro ⟨j, hj, hi, h1, h2⟩
        refine ⟨j + 1, by simp; omega, by omega, by simpa using h1, fun j' h' => ?_⟩
        cases j' with
        | zero => simpa using hc
        | succ j' =>
          have h := h2 j' (by omega)
          simp only [List.take_succ_cons, List.getElem_cons_succ]
          rw [show k + (j' + 1) = k + 1 + j' by omega]
          simpa using h
      · rintro ⟨j, hj, hi, h1, h2⟩
        cases j with
        | zero =>
          simp only [Nat.add_zero, List.take_zero, List.append_nil, List.getElem_cons_zero] at hi h1
          subst hi
          rw [hc] at h1
          cases h1
        | succ j =>
          refine ⟨j, by simpa using hj, by omega, by simpa using h1, fun j' h' => ?_⟩
          have h := h2 (j' + 1) (by omega)
          simp only [List.take_succ_cons, List.getElem_cons_succ] at h
          rw [show k + (j' + 1) = k + 1 + j' by omega] at h
          simpa using h

/-- No row for which a check gives a reason. -/
theorem firstBad_eq_none {check : List Row → Nat → Row → Option Reason} (rows : List Row) :
    ∀ (e : List Row) (k : Nat), firstBad check e k rows = none ↔
      ∀ j (h : j < rows.length), check (e ++ rows.take j) (k + j) rows[j] = none := by
  induction rows with
  | nil => intro e k; simp [firstBad]
  | cons r rs ih =>
    intro e k
    simp only [firstBad]
    cases hc : check e k r with
    | some w' =>
      simp only [reduceCtorEq, false_iff]
      intro h
      have h0 := h 0 (by simp)
      simp [hc] at h0
    | none =>
      simp only
      rw [ih]
      constructor
      · intro h j hj
        cases j with
        | zero => simpa using hc
        | succ j =>
          have h' := h j (by simpa using hj)
          simp only [List.take_succ_cons, List.getElem_cons_succ]
          rw [show k + (j + 1) = k + 1 + j by omega]
          simpa using h'
      · intro h j hj
        have h' := h (j + 1) (by simpa using hj)
        simp only [List.take_succ_cons, List.getElem_cons_succ] at h'
        rw [show k + (j + 1) = k + 1 + j by omega] at h'
        simpa using h'

/-- A bank passes validation when each of its five checks finds nothing. -/
theorem validate_eq_none {b : Bank} : validate b = none ↔
    policyBad b.policy = false ∧ firstBad funcCheck [] 0 b.func.toList = none ∧
      firstBad pinCheck [] 0 b.pin.toList = none ∧ firstUnplaced b = none ∧
      firstBad slotCheck [] 0 b.slot.toList = none := by
  unfold validate
  cases policyBad b.policy <;> cases firstBad funcCheck [] 0 b.func.toList <;>
    cases firstBad pinCheck [] 0 b.pin.toList <;> cases firstUnplaced b <;>
    cases firstBad slotCheck [] 0 b.slot.toList <;> simp

/-! ### Headers -/

/-- R191: the value of a 16-bit field. -/
theorem le16_toNat (lo hi : Byte) : (le16 lo hi).toNat = lo.toNat + 256 * hi.toNat := by
  have h1 := lo.isLt
  have h2 := hi.isLt
  rw [le16, BitVec.toNat_append, ← Nat.shiftLeft_add_eq_or_of_lt h1, Nat.shiftLeft_eq]
  omega

/-- A good header holds no symbol error, and its fields stand in its bytes. -/
theorem judgeHeader_eq_some {syms : List Sym} {h : Header} (hj : judgeHeader syms = some h) :
    syms.any Sym.damages = false ∧ FrameType.ofCode ((syms.map Sym.value).getD 0 0) = some h.type ∧
      h.gen = (syms.map Sym.value).getD 1 0 ∧ h.hop = (syms.map Sym.value).getD 6 0 ∧
      (h.type = .process → h.length ≤ Config.maxImage) := by
  unfold judgeHeader headerOfBytes at hj
  split at hj
  · cases hj
  · rename_i hd
    split at hj
    · cases hj
    · rename_i t ht
      dsimp only at hj
      split at hj
      · cases hj
      · split at hj
        · cases hj
        · rename_i hc hl
          obtain rfl := Option.some.inj hj
          exact ⟨by simpa using hd, ht, rfl, rfl, fun hp => Nat.not_lt.1 fun hlt => hl ⟨hp, hlt⟩⟩

/-! ### The switch -/

/-- The node at a switch, before its pins are decided anew. -/
def State.switched (g : Byte) (s : State) : State :=
  { s with
    banks := { s.banks with active := s.banks.active.other, gen := g, armed := none }
    store := { s.store with strobePending := none }
    pins := { s.pins with
      force := if s.banks.stagedBank.policy.permit then s.pins.force else Vector.replicate 24 none }
    pg := switchPulse s.banks.activeBank s.banks.stagedBank s.pg
    cc := switchCounters s.banks.activeBank s.banks.stagedBank s.cc
    mc := switchMode s.banks.stagedBank.policy s.mc }

/-- A switch exchanges the banks and hands the notice on; then every pin is decided anew. -/
theorem State.switchTo_eq (g : Byte) (s : State) :
    s.switchTo g = (s.switched g).redecideWith (listDiffers s.banks.activeBank s.banks.stagedBank) := rfl

@[simp] theorem State.switched_activeBank (g : Byte) (s : State) :
    (s.switched g).banks.activeBank = s.banks.stagedBank := rfl

@[simp] theorem State.switched_stagedBank (g : Byte) (s : State) :
    (s.switched g).banks.stagedBank = s.banks.activeBank := by
  cases h : s.banks.active <;>
    simp [State.switched, BankUnit.stagedBank, BankUnit.activeBank, BankUnit.bank, BankId.other, h]

/-! ### Outputs -/

/-- A setpoint that enters the current tier touches that tier, its unit, the owners and the settle counts. -/
theorem enterSetpoint_frame (p : Option Setpoint) (n : Unit4) (s : State) :
    enterSetpoint p n s = { s with
      store := { s.store with pgset := (enterSetpoint p n s).store.pgset }
      pg := (enterSetpoint p n s).pg
      pins := { s.pins with owner := (enterSetpoint p n s).pins.owner }
      sampler := { s.sampler with settle := (enterSetpoint p n s).sampler.settle } } := by
  cases p with
  | none => rfl
  | some p => dsimp only [enterSetpoint, State.redecide, State.redecideWith]

/-- The current-tier values and the units after a setpoint has entered. -/
theorem enterSetpoint_values (p : Option Setpoint) (n k : Unit4) (s : State) :
    (enterSetpoint p n s).store.pgset[k] = (if k = n then p.getD s.store.pgset[k] else s.store.pgset[k]) ∧
      (enterSetpoint p n s).pg[k] = if k = n then (match p with
        | some v => s.pg[k].take v
        | none => s.pg[k]) else s.pg[k] := by
  cases p with
  | none => simp [enterSetpoint]
  | some v =>
    have hset : ∀ {α : Type} (w : Vector α 4) (x : α), (w.set n x)[k] = if k = n then x else w[k] := by
      intro α w x
      by_cases h : k = n
      · subst h
        simp
      · rw [if_neg h]
        exact Vector.getElem_set_ne _ _ (fun q => h (Fin.ext q.symm))
    simp only [enterSetpoint, State.redecide_store, State.redecide_pg]
    rw [hset, hset]
    by_cases h : k = n
    · subst h
      simp
    · simp [h]

/-- Outputs that enter the current tier touch that tier, the units, the owners and the settle counts. -/
theorem enterOutputs_frame (o : StrobeSet) (s : State) :
    enterOutputs o s = { s with
      store := { s.store with
        dout := o.dout.getD s.store.dout, pgset := (enterOutputs o s).store.pgset }
      pg := (enterOutputs o s).pg
      pins := { s.pins with owner := (enterOutputs o s).pins.owner }
      sampler := { s.sampler with settle := (enterOutputs o s).sampler.settle } } := by
  unfold enterOutputs
  rw [enterSetpoint_frame, enterSetpoint_frame, enterSetpoint_frame, enterSetpoint_frame]

/-- `t` has come from `s` by outputs that entered the current tier: all but the units' claims is as it was, and the pins
are decided anew. -/
def OutputsEntered (s t : State) : Prop :=
  t.pins.force = s.pins.force ∧ t.mc = s.mc ∧ t.banks = s.banks ∧ DecidedAnew s t

/-- One setpoint more has entered, at a unit that stands as at the start: a pin whose owner is the same in the end has
had it throughout, so it has no settle mark. -/
theorem OutputsEntered.enterSetpoint {s t : State} (hd : ∀ n : Pin, s.pins.owner[n] = s.deciding n)
    (h : OutputsEntered s t) (p : Option Setpoint) (k : Unit4) (hk : t.pg[k] = s.pg[k]) :
    OutputsEntered s (enterSetpoint p k t) := by
  obtain ⟨h1, h2, h3, h4⟩ := h
  cases p with
  | none => exact ⟨h1, h2, h3, h4⟩
  | some v =>
    have hv : ∀ j : Unit4, j ≠ k → (Machine.enterSetpoint (some v) k t).pg[j] = t.pg[j] := fun j hj =>
      (enterSetpoint_values (some v) k j t).2.trans (if_neg hj)
    have hf := enterSetpoint_frame (some v) k t
    have hnew : DecidedAnew t (Machine.enterSetpoint (some v) k t) := by
      unfold Machine.enterSetpoint
      exact State.redecide_decided rfl rfl
    generalize Machine.enterSetpoint (some v) k t = u at hv hf hnew ⊢
    have f1 : u.pins.force = s.pins.force := by rw [hf]; exact h1
    have f2 : u.mc = s.mc := by rw [hf]; exact h2
    have f3 : u.banks = s.banks := by rw [hf]; exact h3
    have row : ∀ {w : State}, w.banks = s.banks → ∀ n, w.pinRow n = s.pinRow n := fun hw n => by
      simp only [State.pinRow, hw]
    refine ⟨f1, f2, f3, fun n => ⟨(hnew n).1, ?_⟩⟩
    have same : u.deciding n = s.deciding n → t.deciding n = s.deciding n := fun he =>
      State.deciding_between (by rw [h1]) (by rw [f1]) (by rw [h2]) (by rw [f2]) (row h3 n) (row f3 n)
        (fun j => by
          by_cases hj : j = k
          · subst hj
            exact Or.inl (by rw [hk])
          · exact Or.inr (by rw [hv j hj])) he
    rw [(hnew n).2, (h4 n).2, row f3 n, row h3 n]
    by_cases he : u.pins.owner[n] = s.pins.owner[n]
    · have ht : t.pins.owner[n] = s.pins.owner[n] := by
        rw [(h4 n).1, same (by rw [← (hnew n).1, he, hd n]), hd n]
      simp [he, ht]
    · by_cases hut : u.pins.owner[n] = t.pins.owner[n]
      · rw [if_neg (not_not_intro hut), if_pos he, if_pos (hut ▸ he)]
      · rw [if_pos hut, if_pos he]

/-- R72: when outputs enter the current tier of a node whose owners are decided, a pin has a settle mark exactly where
its owner changed. -/
theorem enterOutputs_decided (o : StrobeSet) {s : State} (hd : ∀ n : Pin, s.pins.owner[n] = s.deciding n) :
    DecidedAnew s (enterOutputs o s) := by
  have apart : ∀ (p : Option Setpoint) (n k : Unit4) (w : State), k ≠ n →
      (enterSetpoint p n w).pg[k] = w.pg[k] := fun p n k w hk => by
    rw [(enterSetpoint_values p n k w).2, if_neg hk]
  have h0 : OutputsEntered s { s with store := { s.store with dout := o.dout.getD s.store.dout } } :=
    ⟨rfl, rfl, rfl, fun n => ⟨hd n, by simp⟩⟩
  have h1 := h0.enterSetpoint hd o.pgset[0] 0 rfl
  have h2 := h1.enterSetpoint hd o.pgset[1] 1 (by rw [apart _ 0 1 _ (by decide)])
  have h3 := h2.enterSetpoint hd o.pgset[2] 2 (by rw [apart _ 1 2 _ (by decide), apart _ 0 2 _ (by decide)])
  have h4 := h3.enterSetpoint hd o.pgset[3] 3
    (by rw [apart _ 2 3 _ (by decide), apart _ 1 3 _ (by decide), apart _ 0 3 _ (by decide)])
  exact h4.2.2.2

/-! ### Edges -/

/-- The delivery of a list of edges, unit by unit. -/
theorem foldl_deliverEdge_cc (raw : Pin → Bool) (k : Unit4) (pins : List Pin) :
    ∀ s : State, (pins.foldl (fun t n => t.deliverEdge n (raw n)) s).cc[k] =
      pins.foldl (fun u n => if (s.pinRow n).names (BitVec.ofNat 8 (6 + k.val)) then
        u.edge (s.banks.activeBank.ccRow k) (raw n) s.sampler.tick else u) s.cc[k] := by
  induction pins with
  | nil => intro s; rfl
  | cons p ps ih =>
    intro s
    rw [List.foldl_cons, ih, List.foldl_cons]
    congr 1
    simp [State.deliverEdge]

/-- The delivery of a list of edges to the event queue. -/
theorem foldl_deliverEdge_queue (raw : Pin → Bool) (pins : List Pin) :
    ∀ s : State, (pins.foldl (fun t n => t.deliverEdge n (raw n)) s).queue =
      pins.foldl (fun q n => if (s.pinRow n).names 10 && (s.pinRow n).watches (raw n) then
        q.post n (raw n) s.sampler.tick else q) s.queue := by
  induction pins with
  | nil => intro s; rfl
  | cons p ps ih =>
    intro s
    rw [List.foldl_cons, ih, List.foldl_cons]
    congr 1

/-- The delivery of edges touches the counter/capture units and the queue. -/
theorem foldl_deliverEdge_frame (raw : Pin → Bool) (pins : List Pin) :
    ∀ s : State, pins.foldl (fun t n => t.deliverEdge n (raw n)) s = { s with
      cc := (pins.foldl (fun t n => t.deliverEdge n (raw n)) s).cc
      queue := (pins.foldl (fun t n => t.deliverEdge n (raw n)) s).queue } := by
  induction pins with
  | nil => intro s; rfl
  | cons p ps ih =>
    intro s
    rw [List.foldl_cons, ih]
    rfl

end Sys2Proof.Machine
end

