-- ==== Sys2Proof/WellFormed.lean ====
section
/-! DEFINITION. When a command's operands are what the step can carry. `exec` is total: on an ill-formed command
it takes what is missing as said in entry 21. -/

namespace Sys2Proof

/-- R79, R80: a sample reads all 24 pads. -/
def fieldWf (field : List PadField) : Bool := field.length == 24

/-- Table 9-1: a break idle carries an address from 0 to 250. -/
def Symbol.wf : Symbol → Bool
  | .breakIdle a => a.toNat ≤ Config.maxAddress
  | .data _ | .startDelimiter | .endDelimiter | .abortDelimiter | .plainIdle => true

/-- Table 10-4: a segment has 32 payload bytes. -/
def Request.wf (rq : Request) : Bool := rq.payload.length == 32

/-- The symbols that complete something of `n` bytes: at least the last one, at most all of them. -/
def completes (n : Nat) (rest : List Sym) : Bool := 1 ≤ rest.length && rest.length ≤ n

/-- A command's operands are what its step can carry. -/
def Instr.wf : Instr → Bool
  | .endOfReset field | .sample field => fieldWf field
  | .validSymbol sym => sym.wf
  | .frameHeader rest => completes 8 rest
  | .addressField rest => completes 2 rest
  | .badSegment rest => completes 40 rest
  | .emptySegment body => body.length == 37
  | .badOpcode code rq => !Machine.knownCodes.contains code && rq.wf
  | .identify rq | .readStatus rq | .readOwners rq | .openView rq | .readRows rq | .writeRows rq
  | .clone rq | .arm rq | .disarm rq | .forcePin rq | .releasePin rq | .enterFallback rq | .resume rq
  | .releaseAddress rq | .restart rq | .clearStats rq | .clearCause rq => rq.wf
  | .powerReset | .pinReset | .softReset | .symbolError | .linkUp | .linkDownEvent | .startDelimiter
  | .outCapture _ | .inValueTaken _ | .excessDataByte _ | .frameEnd | .frameAbort _ | .delimiterLeavesOut
  | .frameWatchExpiry | .periodStart _ | .widthReached _ | .cloneComplete | .validationComplete
  | .tickIncrement _ | .supplyGood | .nrstRises => true

end Sys2Proof
end

