-- ==== Sys2Proof/Tests/Slice0.lean ====
section
/-! SUPPORT. The model's own tests: the operand checks, one step of each command on a small state, and states and
operands that meet the hypotheses of each statement. -/

namespace Sys2Proof.Tests
open Sys2Proof Sys2Proof.Machine

/-! ### Small states -/

/-- The state after a command. -/
def after (c : Instr) (s : State) : State :=
  match exec c s with
  | .next t => t
  | _ => s

/-- A request to address 5 with tag 7. -/
def request (payload : List Byte) : Request :=
  ⟨5, 7, 0, BitVec.ofNat 8 payload.length, payload ++ List.replicate (32 - payload.length) 0⟩

/-- A bank of zero rows but for these. -/
def bankOf (policy : List Byte) (rows : List (TableId × Nat × List Byte)) : Bank :=
  rows.foldl (fun b e => b.setRow e.1 e.2.1 (Row.ofBytes e.2.2)) (Bank.zero.setRow .policy 0 (Row.ofBytes policy))

/-- Pin and function rows: P0 of DOUT; P1 of PG0; P2 of CC0 and watched. -/
def unitRows : List (TableId × Nat × List Byte) :=
  [(.pin, 0, [1, 0, 0, 0, 2, 0, 3, 0]), (.pin, 1, [2, 0, 0, 1, 0, 0, 0, 0]), (.pin, 2, [6, 10, 0, 0, 0, 1, 0, 2]),
   (.func, 0, [1, 1, 0, 0, 0, 0, 0, 0]), (.func, 4, [1, 0, 0, 0, 0, 0, 0, 0])]

/-- Slot rows of all nine channels; the image has 33 bytes. -/
def slotRows : List (TableId × Nat × List Byte) :=
  [(.slot, 0, [1, 0, 0, 0, 0]), (.slot, 1, [2, 0, 3, 0, 0]), (.slot, 2, [3, 0, 7, 0, 0]),
   (.slot, 3, [4, 0, 8, 0, 0]), (.slot, 4, [0x81, 0, 10, 0, 0]), (.slot, 5, [0x82, 0, 13, 0, 0]),
   (.slot, 6, [0x83, 0, 17, 0, 0]), (.slot, 7, [0x84, 0, 21, 0, 1]), (.slot, 8, [0x85, 0, 31, 0, 0])]

/-- Timeout 1, divisor 10, IMMEDIATE, ON_FRAME, permit YES. -/
def bank : Bank := bankOf [1, 0, 10, 0, 1, 1, 0, 0] (unitRows ++ slotRows)

/-- The same units with STROBED mode and permit NO, and a PG0 row that differs. -/
def strobedBank : Bank :=
  bankOf [1, 0, 10, 1, 0, 0, 0, 0] (unitRows ++ slotRows ++ [(.func, 0, [1, 0, 0, 0, 0, 0, 0, 0])])

/-- The links up, nothing in passage, a forwarding delay of idles on the line. -/
def up : State :=
  { State.reset with
    link := { LinkInterface.reset .idle with inState := .up, line := List.replicate 48 .plainIdle } }

/-- At address 5. -/
def standby : State := { up with mc := { up.mc with address := 5, mode := .standby } }

/-- At address 5 with generation 3, on this bank. -/
def runningOn (b : Bank) : State :=
  { up with
    banks := ⟨Bank.zero, b, .bank1, 3, none, .idle⟩
    mc := { up.mc with address := 5, mode := .running, timer := some 100 }
    pg := up.pg.set 0 { PulseGen.reset with state := .stopped }
    pins := { up.pins with owner := up.pins.owner.set 0 .direct } }

/-- At address 5 with generation 3. -/
def running : State := runningOn bank

/-- In FALLBACK after a timeout. -/
def fallen : State := running.enterFallback .timeout

/-- Generation 4 armed in the bank of `standby`'s STAGED role. -/
def armedAt4 (b : Bank) (s : State) : State :=
  { s with banks := { s.banks.setStaged b with armed := some 4 } }

/-- The frame's symbols follow its start delimiter on the line. -/
def carrying (f : Frame) (s : State) : State :=
  { s with
    fp := { s.fp with frame := some f }
    link := { s.link with
      out := .idle, line := List.replicate 48 .plainIdle ++ .startDelimiter :: f.arrived.map Sym.out } }

/-- Eight header bytes with a good check. -/
def headerBytes (type gen : Byte) (length : Half) (hop : Byte) : List Byte :=
  let first := [type, gen, 0x11, 0x22] ++ bytes16 length ++ [hop]
  first ++ [crc8 first]

/-- A frame whose header has not arrived whole. -/
def opening (bytes : List Byte) : Frame := { Frame.opened .bank0 with arrived := bytes.map Sym.byte }

/-- A frame with a good header, after these positions. -/
def headed (type : FrameType) (length : Nat) (arrived : List Sym) : Frame :=
  { Frame.opened .bank0 with arrived := arrived, header := .good type length }

/-- `n` bytes that are all 9. -/
def nines (n : Nat) : List Sym := List.replicate n (.byte 9)

/-- A PROCESS frame before its segment. -/
def beforeSegment : Frame := headed .process 33 (nines 8)

/-- A processed frame on `running`, after `n` positions. -/
def processedFrame (n : Nat) : Frame := { headed .process 33 (nines n) with processed := true, bound := .bank1 }

/-- The frame with a good trailer after its positions so far. -/
def closed (f : Frame) : Frame :=
  { f with arrived := f.arrived ++ (bytes32 (crc32 (f.arrived.map Sym.value))).map Sym.byte }

/-- At a frame before its segment. -/
def atSegment (s : State) : State := carrying beforeSegment s

/-- The first `n` bytes of the last segment on the line. -/
def reply (n : Nat) (s : State) : List Byte :=
  ((s.link.line.drop (s.link.line.length - 40)).map OutSym.byte).take n

/-- The reply to a request at a node with a frame before its segment. -/
def replyTo (c : Instr) (n : Nat) (s : State) : List Byte := reply n (after c (atSegment s))

/-- All pads at this level. -/
def pads (high : Bool) : List PadField := List.replicate 24 (.level high)

/-! ### Operands -/

theorem test_wf_sample_reads_24_pads :
    (Instr.sample (pads true)).wf = true ∧ (Instr.sample (List.replicate 23 .floating)).wf = false ∧
    (Instr.endOfReset (List.replicate 25 .floating)).wf = false := by decide +kernel

theorem test_wf_break_idle_address :
    (Instr.validSymbol (.breakIdle 250)).wf = true ∧ (Instr.validSymbol (.breakIdle 251)).wf = false := by decide +kernel

theorem test_wf_payload_of_32 :
    (Instr.arm (request [4])).wf = true ∧ (Instr.arm ⟨5, 7, 0, 1, List.replicate 31 0⟩).wf = false := by decide +kernel

theorem test_wf_bad_opcode :
    (Instr.badOpcode 0x04 (request [])).wf = true ∧ (Instr.badOpcode 0x51 (request [])).wf = false ∧
    (Instr.badOpcode 0x04 ⟨5, 7, 0, 0, []⟩).wf = false := by decide +kernel

theorem test_wf_completing_symbols :
    (Instr.frameHeader (nines 8)).wf = true ∧ (Instr.frameHeader []).wf = false ∧
    (Instr.frameHeader (nines 9)).wf = false ∧ (Instr.addressField (nines 2)).wf = true ∧
    (Instr.addressField []).wf = false ∧ (Instr.addressField (nines 3)).wf = false ∧
    (Instr.badSegment (nines 40)).wf = true ∧ (Instr.badSegment []).wf = false ∧
    (Instr.badSegment (nines 41)).wf = false := by decide +kernel

theorem test_wf_empty_segment :
    (Instr.emptySegment (List.replicate 37 0)).wf = true ∧
    (Instr.emptySegment (List.replicate 36 0)).wf = false := by decide +kernel

theorem test_no_row_has_bits : decodeTableWord 8 0 = none ∧ State.withFetchWord State.reset 8 0 = State.reset :=
  ⟨rfl, rfl⟩

theorem test_check_values :
    crc32 [0x31, 0x32, 0x33, 0x34, 0x35, 0x36, 0x37, 0x38, 0x39] = 0xFC891918 ∧
    crc16 [0x31, 0x32, 0x33, 0x34, 0x35, 0x36, 0x37, 0x38, 0x39] = 0x29B1 ∧
    crc8 [0x31, 0x32, 0x33, 0x34, 0x35, 0x36, 0x37, 0x38, 0x39] = 0xF4 := by decide +kernel

theorem test_banks_pass_validation : validate bank = none ∧ validate strobedBank = none := by decide +kernel

theorem test_validation_names_first_failure :
    validate Bank.zero = some ⟨.policy, 0, .badValue⟩ ∧
    validate (bank.setRow .func 1 (Row.ofBytes [1, 0])) = some ⟨.func, 1, .unplaced⟩ ∧
    validate (bank.setRow .pin 3 (Row.ofBytes [2])) = some ⟨.pin, 3, .multiplaced⟩ ∧
    validate (bank.setRow .slot 9 (Row.ofBytes [0x81, 0, 12])) = some ⟨.slot, 9, .overlap⟩ := by decide +kernel

/-! ### One step of each command -/

theorem test_power_reset : (after .powerReset running).mc = ModeController.reset ⟨true, false, false⟩ ∧
    (after .powerReset running).held = true ∧ (after .powerReset running).link.out = .silent := by decide +kernel

theorem test_pin_reset_adds_its_cause :
    (after .pinReset running).mc.resetCause = ⟨true, true, false⟩ ∧ (after .pinReset running).banks.gen = 0 := by
  decide +kernel

theorem test_soft_reset_waits_for_the_carrier :
    let s := { running with mc := { running.mc with restart := some 0 } }
    (after .softReset s).mc.resetCause = ⟨true, false, true⟩ ∧ (after .softReset running).mc = running.mc := by
  decide +kernel

theorem test_end_of_reset_samples :
    let s := after (.endOfReset (pads true)) { after .pinReset running with hold := ⟨.off, .timing, .off⟩ }
    s.sampler.level = 0xFFFFFF ∧ s.link.out = .brk ∧ s.held = false := by decide +kernel

theorem test_supply_good_and_nrst_rises :
    (after .supplyGood (after .powerReset running)).hold = ⟨.timing, .off, .off⟩ ∧
    (after .nrstRises (after .pinReset running)).hold = ⟨.off, .timing, .off⟩ := by decide +kernel

theorem test_valid_symbol_settles :
    (after (.validSymbol .plainIdle) State.reset).link.inState = .settling ∧
    (after (.validSymbol .plainIdle) State.reset).link.cleanIdles = 1 ∧
    (after (.validSymbol (.breakIdle 3)) up).link.breakMark = some 3 := by decide +kernel

theorem test_symbol_error_damages :
    ((after .symbolError (carrying (processedFrame 60) running)).fp.frame.map Frame.damaged) = some true ∧
    (after .symbolError (carrying (processedFrame 60) running)).link.line.getLast? = some .error := by
  decide +kernel

theorem test_link_up :
    let s := { State.reset with link := { State.reset.link with inState := .settling, cleanIdles := 1024 } }
    (after .linkUp s).link.inState = .up ∧ (after .linkUp s).link.out = .idle := by decide +kernel

theorem test_link_down_enters_fallback :
    (after .linkDownEvent running).mc.mode = .fallback ∧ (after .linkDownEvent running).mc.cause = .link ∧
    (after .linkDownEvent running).link.inState = .down ∧ (after .linkDownEvent running).link.out = .brk := by
  decide +kernel

theorem test_start_delimiter :
    (after .startDelimiter up).fp.frame = some (Frame.opened .bank0) ∧
    (after .startDelimiter State.reset).stats.aborted = 1 := by decide +kernel

theorem test_frame_header_position_and_hop :
    let hdr := headerBytes 0xA1 3 33 9
    let s := after (.frameHeader ((hdr.drop 7).map Sym.byte)) (carrying (opening (hdr.take 7)) running)
    s.fp.position = 9 ∧
    s.link.line.getLast? = some (.data (crc8 (hdr.take 6 ++ [10]))) ∧
    (s.fp.frame.map Frame.processed) = some true := by decide +kernel

theorem test_address_field :
    let s := after (.addressField [.byte 250, .byte 0]) (carrying (headed .address 0 (nines 8)) up)
    (s.fp.frame.map Frame.provisional) = some (some 250) ∧
    s.link.line.drop (s.link.line.length - 2) = [.data 251, .data 0] := by decide +kernel

theorem test_bad_segment_is_counted_and_forwarded :
    let s := after (.badSegment (nines 40)) (atSegment running)
    s.stats.headerErrors = 1 ∧ reply 40 s = List.replicate 40 9 := by decide +kernel

theorem test_empty_segment_collects :
    let s := { running with mx := { running.mx with slot := .answering ⟨7, 0x21, 0, 0, [4]⟩ } }
    replyTo (.emptySegment []) 7 s = [2, 5, 7, 0, 0, 1, 4] ∧
    (after (.emptySegment []) (atSegment s)).mx.slot = .idle := by decide +kernel

theorem test_identify :
    replyTo (.identify (request [])) 22 running =
      [2, 5, 7, 0, 0, 16, 0xEC, 0x18, 0x24, 3, 5, 2, 3, 0, 0, 1, 0, 0, 0, 0, 0, 0] := by decide +kernel

theorem test_read_status :
    replyTo (.readStatus (request [])) 8 { running with stats := { Stats.zero with goodFrames := 0x0102 } } =
      [2, 5, 7, 0, 0, 32, 2, 1] := by decide +kernel

theorem test_read_owners :
    (replyTo (.readOwners (request [])) 36 running) = [2, 5, 7, 0, 0, 30, 1] ++ List.replicate 23 0 ++
      [1, 0, 0, 2, 0, 0] := by decide +kernel

theorem test_bad_opcode : replyTo (.badOpcode 0x04 (request [])) 6 running = [2, 5, 7, 0x80, 0, 0] := by
  decide +kernel

theorem test_open_view :
    (after (.openView (request [1, 2, 7])) (atSegment running)).mx.view = ⟨.staged, .func, 7⟩ ∧
    replyTo (.openView (request [1, 2, 8])) 6 running = [2, 5, 7, 0x82, 0, 0] := by decide +kernel

theorem test_read_rows :
    let s := { running with mx := { running.mx with view := ⟨.active, .pin, 0⟩ } }
    replyTo (.readRows (request [1])) 14 s = [2, 5, 7, 0, 0, 8, 1, 0, 0, 0, 2, 0, 3, 0] := by decide +kernel

theorem test_write_rows :
    let s := { running with mx := { running.mx with view := ⟨.staged, .policy, 0⟩ } }
    let t := after (.writeRows (request [1, 2, 3, 4, 5, 6, 7, 8])) (atSegment s)
    t.banks.stagedBank.policy = ⟨1, 2, 3, 4, 5, 6, 7, 8⟩ ∧ t.banks.activeBank.policy = bank.policy ∧
    t.mx.view.next = 1 ∧ replyTo (.writeRows (request [1])) 6 running = [2, 5, 7, 0x83, 0, 0] := by
  decide +kernel

theorem test_clone_and_its_end :
    let s := after (.clone (request [])) (atSegment running)
    s.mx.slot = .working 7 0x20 ∧ s.banks.longOp = .cloning ∧
    (after .cloneComplete s).banks.stagedBank = bank ∧
    (after .cloneComplete s).mx.slot = .answering ⟨7, 0x20, 0, 0, []⟩ := by decide +kernel

theorem test_arm_and_its_end :
    let s := { running with banks := { running.banks with bank0 := strobedBank } }
    let t := after (.arm (request [4])) (atSegment s)
    t.banks.longOp = .validating 4 ∧ (after .validationComplete t).banks.armed = some 4 ∧
    replyTo (.arm (request [3])) 6 running = [2, 5, 7, 0x87, 0, 0] := by decide +kernel

theorem test_validation_of_a_bad_bank :
    let s := { running with
      banks := { running.banks with longOp := .validating 4 }, mx := { running.mx with slot := .working 7 0x21 } }
    (after .validationComplete s).mx.slot = .answering ⟨7, 0x21, 0x86, 0, [3, 0, 1]⟩ := by decide +kernel

theorem test_disarm :
    let s := armedAt4 bank standby
    replyTo (.disarm (request [])) 6 s = [2, 5, 7, 0, 4, 0] ∧
    (after (.disarm (request [])) (atSegment s)).banks.armed = none := by decide +kernel

theorem test_force_pin_and_release_pin :
    let s := after (.forcePin (request [23, 3])) (atSegment running)
    s.pinState 23 = .high ∧ s.pins.owner[23] = .force ∧
    (after (.releasePin ⟨5, 8, 0, 1, [255] ++ List.replicate 31 0⟩) (atSegment s)).pinState 23 =
      .highz ∧
    replyTo (.forcePin (request [23, 1])) 6 running = [2, 5, 7, 0x82, 0, 0] := by decide +kernel

theorem test_release_pin_range :
    replyTo (.releasePin (request [24])) 6 running = [2, 5, 7, 0x82, 0, 0] := by decide +kernel

theorem test_enter_fallback_and_resume :
    let s := after (.enterFallback (request [])) (atSegment running)
    s.mc.mode = .fallback ∧ s.mc.cause = .request ∧ s.pinState 0 = .low ∧ s.sampler.settle[0] = 3 ∧
    (after (.resume ⟨5, 8, 0, 0, List.replicate 32 0⟩) (atSegment s)).mc.mode = .running ∧
    replyTo (.resume (request [])) 6 running = [2, 5, 7, 0x84, 0, 0] := by decide +kernel

theorem test_release_address :
    let s := after (.releaseAddress (request [])) (atSegment standby)
    s.mc.address = 0 ∧ s.mc.mode = .unaddressed ∧ reply 2 s = [2, 5] := by decide +kernel

theorem test_restart : (after (.restart (request [])) (atSegment running)).mc.restart = some 1 := by
  decide +kernel

theorem test_clear_stats_and_clear_cause :
    (after (.clearStats (request [])) (atSegment running)).stats = Stats.zero ∧
    (after (.clearCause (request [])) (atSegment running)).mc.resetCause = ⟨false, false, false⟩ := by
  decide +kernel

theorem test_out_capture :
    let s := carrying { processedFrame 0 with arrived := nines 48 ++ [.byte 1, .byte 2, .byte 3] } running
    (after (.outCapture 0) s).store.framePending.dout = some 0x030201 ∧
    (after (.outCapture 1) s).store.framePending = FramePending.empty := by decide +kernel

theorem test_in_value_taken_and_sent :
    let s := carrying (processedFrame 58) { running with sampler := { running.sampler with snapshot := 0x030201 } }
    let t := after (.inValueTaken 4) s
    (t.fp.frame.map Frame.taken) = some [⟨.snap, 0, [1, 2, 3]⟩] ∧
    (after (.validSymbol (.data 0xFF)) t).link.line.getLast? = some (.data 1) := by decide +kernel

theorem test_excess_byte_poisons :
    let f := headed .strobe 0 (nines 12)
    let s := after (.excessDataByte 7) (carrying f running)
    let poison := bytes32 (~~~ crc32 (List.replicate 8 9))
    s.link.line.drop (s.link.line.length - 5) = poison.map OutSym.data ++ [.data 7] := by decide +kernel

set_option maxRecDepth 100000 in
theorem test_frame_end_applies :
    let f := closed (processedFrame 81)
    let s := { running with
      store := { running.store with framePending := { FramePending.empty with
        dout := some 1, pgset := FramePending.empty.pgset.set 0 (some ⟨10, 4⟩) } } }
    let t := after .frameEnd (carrying f s)
    t.pinState 0 = .high ∧ t.pg[0].state = .running 0 ∧ t.pinState 1 = .high ∧ t.stats.goodFrames = 1 ∧
    t.mc.timer = some 100 ∧ t.pins.owner[1] = .pulse 0 := by decide +kernel

theorem test_frame_end_takes_address :
    let f := { closed (headed .address 0 (nines 10)) with provisional := some 250 }
    let s := after .frameEnd (carrying f up)
    s.mc.address = 250 ∧ s.mc.mode = .standby := by decide +kernel

theorem test_frame_abort :
    let s := { running with fp := ⟨some { processedFrame 564 with header := .bad }, 0⟩ }
    let t := after (.frameAbort .tooLong) s
    t.stats.aborted = 1 ∧ t.link.discarding = true ∧ t.fp.frame = none ∧
    t.link.line = List.replicate 47 .plainIdle ++ [.abortDelimiter] := by decide +kernel

theorem test_delimiter_leaves_out :
    let s := after .delimiterLeavesOut (atSegment running)
    s.link.out = .forwarding ∧ s.link.line = List.replicate 8 (.data 9) := by decide +kernel

theorem test_sample_counts_and_posts :
    let s := { running with sampler := { running.sampler with
      due := true, tick := 77, run := running.sampler.run.set 2 1 } }
    let t := after (.sample (pads true)) s
    t.cc[0] = ⟨1, 77, none⟩ ∧ t.queue = ⟨[⟨0, 2, true, 0, 77⟩], 1, 0⟩ ∧ t.sampler.level.getLsbD 2 = true ∧
    t.sampler.level.getLsbD 0 = false ∧ t.sampler.due = false := by decide +kernel

theorem test_frame_watch_expiry :
    let s := { running with mc := { running.mc with timer := some 0 } }
    (after .frameWatchExpiry s).mc.cause = .timeout ∧ (after .frameWatchExpiry running).mc = running.mc := by
  decide +kernel

theorem test_tick_period_and_width :
    let s := { running with pg := running.pg.set 0 ⟨.running 3, 4, 2, 6, 1, true, false⟩ }
    let t := after .tickIncrement s
    t.sampler.tick = 1 ∧ t.mc.timer = some 99 ∧ t.pg[0].state = .running 4 ∧
    (after (.periodStart 0) t).pg[0] = ⟨.running 0, 6, 1, 6, 1, true, false⟩ ∧
    (after (.widthReached 0) s).pg[0].outActive = false ∧ (after (.periodStart 0) s).pg = s.pg := by
  decide +kernel

/-- `bank` with a sample divisor of 3 and PG0's active level LOW. -/
def fastBank : Bank :=
  (bank.setRow .policy 0 (Row.ofBytes [1, 0, 3, 0, 1, 1])).setRow .func 0 (Row.ofBytes [1, 0])

/-- `running`, with PG0 in its period and the sample phase at 6, after a header that switches it to `fastBank`. -/
def switched : State :=
  let hdr := headerBytes 0xA1 4 33 9
  let s := armedAt4 fastBank { running with
    sampler := { running.sampler with phase := 6 }
    pg := running.pg.set 0 ⟨.running 3, 4, 2, 6, 1, true, false⟩ }
  after (.frameHeader ((hdr.drop 7).map Sym.byte)) (carrying (opening (hdr.take 7)) s)

theorem test_switch_takes_no_sample :
    switched.policy.divisor = 3 ∧ switched.sampler.phase = 6 ∧
    (after (.sample (pads true)) switched).sampler.run = switched.sampler.run ∧
    (after .tickIncrement switched).sampler.due = true ∧ (after .tickIncrement switched).sampler.phase = 0 := by
  decide +kernel

theorem test_tick_judged_against_old_divisor :
    (after .tickIncrement { running with sampler := { running.sampler with phase := 9 } }).sampler.due = true ∧
    (after .tickIncrement { running with sampler := { running.sampler with phase := 8 } }).sampler.due = false := by
  decide +kernel

theorem test_tick_at_switch_leaves_phase_0 :
    switched.pg[0] = ⟨.running 0, 6, 1, 6, 1, true, true⟩ ∧
    (after (.tickIncrement true) switched).pg[0].state = .running 0 ∧
    (after .tickIncrement switched).pg[0].state = .running 1 ∧
    (after .tickIncrement (after (.tickIncrement true) switched)).pg[0].state = .running 1 := by decide +kernel

theorem test_a_step_takes_the_front_command :
    (match step { up with pending := [.tickIncrement, .linkDownEvent] } with
      | .next t => t.pending
      | _ => []) = [.linkDownEvent] := by decide +kernel


/-! ### The statements' hypotheses are met

For each statement that has hypotheses: a state and operands that meet those of each clause, at the ends of the
clause's range. -/

theorem passing_of {f : Frame} {s : State} (h : s.held = false ∧ s.fp.frame = some f) : s.passing f := h

/-- A request of any payload meets the idle slot of a node at address 5. -/
theorem idle_at (s : State) (code : Byte) (payload : List Byte)
    (h : s.held = false ∧ s.mc.address = 5 ∧ s.mx.slot = .idle ∧ s.mx.last = none) :
    (atSegment s).meetsIdle beforeSegment code (request payload) := by
  obtain ⟨h1, h2, h3, h4⟩ := h
  refine ⟨⟨⟨h1, rfl⟩, rfl, ?_, h2.symm⟩, h3, fun r h => ?_⟩
  · change (true && s.mc.address != 0) = true
    rw [h2]
    rfl
  · rw [show (atSegment s).mx.last = none from h4] at h
    cases h

/-- A request of any payload meets a node at address 5. -/
theorem meets_at (s : State) (code : Byte) (payload : List Byte) (h : s.held = false ∧ s.mc.address = 5) :
    (atSegment s).meets beforeSegment code (request payload) := by
  obtain ⟨h1, h2⟩ := h
  refine ⟨⟨h1, rfl⟩, rfl, ?_, h2.symm⟩
  change (true && s.mc.address != 0) = true
  rw [h2]
  rfl

theorem test_meets_StepRunsFrontCommand :
    { up with pending := [.linkUp] }.pending = .linkUp :: [] ∧ up.pending = [] := ⟨rfl, rfl⟩

theorem test_meets_ResetValues :
    let s := { up with mc := { up.mc with restart := some 0 } }
    s.hold.pin ≠ .waiting ∧ s.hold.power ≠ .waiting ∧ s.held = false ∧ s.mc.restart = some 0 := by decide +kernel

theorem test_meets_ResetsBegin :
    let s := { up with mc := { up.mc with restart := some 0 } }
    (s.held = false ∧ s.mc.restart = some 0) ∧ (after .powerReset s).hold.power = .waiting ∧
    (after .pinReset s).hold.pin = .waiting := by decide +kernel

theorem test_meets_EndOfResetTakesFirstSample :
    let s := after .nrstRises (after .pinReset up)
    s.held = true ∧ s.hold.power ≠ .waiting ∧ s.hold.pin ≠ .waiting := by decide +kernel

theorem test_meets_HeldNodeTakesNothing : (after .pinReset up).held = true := by decide +kernel

theorem test_meets_ValidSymbolSettlesInLink :
    let s := { State.reset with link := { State.reset.link with inState := .settling, cleanIdles := 1024 } }
    (State.reset.held = false ∧ State.reset.link.inState ≠ .up) ∧ s.held = false ∧ s.link.inState ≠ .up ∧
    Symbol.breakIdle 250 ≠ .startDelimiter := by decide +kernel

theorem test_meets_IdlePositionsAreRelayed :
    up.held = false ∧ up.link.inState = .up ∧ up.fp.frame = none := by decide +kernel

theorem test_meets_SymbolErrorEffects :
    let settling := { State.reset with link := { State.reset.link with inState := .settling } }
    let seeing : Frame → State := fun f => { up with fp := ⟨some f, 0⟩ }
    let passes := fun f => ((seeing f).held = false ∧ (seeing f).fp.frame = some f) ∧ (seeing f).link.inState = .up
    let ordinary := { processedFrame 563 with header := .bad }
    (State.reset.held = false ∧ State.reset.link.inState = .down) ∧
    (settling.held = false ∧ settling.link.inState = .settling) ∧
    (passes ordinary ∧ ∀ x ∈ [Sym.error, .idle], ordinary.headerDue [x] = false ∧ ordinary.fieldDue [x] = false ∧
      ordinary.lastOfSegment = false ∧ ordinary.excessDue = false ∧ ordinary.arrived.length < 564) ∧
    (∀ n ∈ [12, 563], passes (headed .strobe 0 (nines n)) ∧
      expectedLength .strobe 0 ≤ (headed .strobe 0 (nines n)).arrived.length ∧
      (headed .strobe 0 (nines n)).arrived.length < 564) ∧
    passes (headed .process 512 (nines 564)) ∧ (headed .process 512 (nines 564)).arrived.length = 564 := by
  decide +kernel

theorem test_meets_StartDelimiterAcceptsOrDrops :
    (State.reset.held = false ∧ State.reset.link.inState ≠ .up) ∧
    (up.held = false ∧ up.link.inState = .up ∧ up.link.discarding = false ∧ up.fp.frame = none) ∧
    (atSegment up).passing beforeSegment ∧ (atSegment up).link.inState = .up ∧
    (atSegment up).link.discarding = false :=
  ⟨by decide +kernel, by decide +kernel, passing_of (by decide +kernel), by decide +kernel⟩

theorem test_meets_OutTransmitStateMoves :
    let settled := { State.reset with link := { State.reset.link with inState := .settling, cleanIdles := 1024 } }
    (settled.held = false ∧ settled.link.inState = .settling ∧ settled.link.cleanIdles = 1024 ∧
      settled.link.out = .brk) ∧
    ((atSegment up).held = false ∧ (atSegment up).link.line =
      List.replicate 48 .plainIdle ++ .startDelimiter :: List.replicate 8 (.data 9)) ∧
    (∀ x ∈ List.replicate 48 OutSym.plainIdle, x ≠ .startDelimiter ∧ x.isEnding = false) ∧
    ∀ inState ∈ [LinkState.up, .down], ∀ rest ∈ [[], [OutSym.plainIdle, .startDelimiter, .endDelimiter]],
      let s := { up with link := { up.link with inState := inState, line := .data 1 :: .endDelimiter :: rest } }
      s.held = false ∧ s.link.line = [.data 1] ++ .endDelimiter :: rest ∧
      ∀ y ∈ [OutSym.data 1], y ≠ .startDelimiter ∧ y.isEnding = false := by decide +kernel

theorem test_meets_LinkDownEventEffects :
    (running.held = false ∧ running.link.inState ≠ .down ∧ running.mc.mode = .running ∧ running.fp.frame = none ∧
      ∀ x ∈ running.link.line, x.isEnding = false) ∧
    (let s := { standby with link := { standby.link with line := [.data 1, .endDelimiter] } };
      s.held = false ∧ s.link.inState ≠ .down ∧ s.mc.mode ≠ .running ∧ s.fp.frame = none ∧
      ∃ x ∈ s.link.line, x.isEnding = true) ∧
    (atSegment fallen).held = false ∧ (atSegment fallen).link.inState ≠ .down ∧
    (atSegment fallen).fp.frame = some beforeSegment := by decide +kernel

/-! Headers. -/

/-- A header whose last byte is the next to arrive. -/
def headerNext (bytes : List Byte) (s : State) : State := carrying (opening (bytes.take 7)) s

theorem test_meets_BadHeaderForwarded :
    let f := opening [0xA1, 3, 0, 0, 33, 0, 9]
    (carrying f up).passing f ∧ f.headerDue [.byte 0] = true ∧ judgeHeader (f.arrived ++ [.byte 0]) = none ∧
    f.headerDue [.error] = true ∧ judgeHeader (f.arrived ++ [.error]) = none ∧
    (opening []).headerDue (nines 8) = true ∧ judgeHeader (nines 8) = none :=
  ⟨passing_of (by decide +kernel), by decide +kernel⟩

theorem test_meets_GoodHeaderIffChecksHold :
    judgeHeader ((headerBytes 0xA1 3 512 9).map Sym.byte) = some ⟨.process, 3, 512, 9⟩ ∧
    judgeHeader ((headerBytes 0xA1 3 513 9).map Sym.byte) = none ∧
    judgeHeader ((headerBytes 0xA2 3 513 9).map Sym.byte) = some ⟨.strobe, 3, 513, 9⟩ ∧
    judgeHeader ((headerBytes 0xA3 3 0 255).map Sym.byte) = some ⟨.address, 3, 0, 255⟩ ∧
    judgeHeader ((headerBytes 0xA4 3 0 0).map Sym.byte) = none ∧
    ∃ x ∈ [Sym.byte 0xA1, .idle], ∀ b, x ≠ .byte b :=
  ⟨by decide +kernel, by decide +kernel, by decide +kernel, by decide +kernel, by decide +kernel,
    .idle, by decide, fun _ h => nomatch h⟩

/-- The header `bytes` is good as `h`, at this node, when its last byte arrives. -/
def GoodNext (bytes : List Byte) (h : Header) (s : State) : Prop :=
  (headerNext bytes s).passing (opening (bytes.take 7)) ∧
    (opening (bytes.take 7)).headerDue [.byte (bytes.getD 7 0)] = true ∧
    judgeHeader ((opening (bytes.take 7)).arrived ++ [.byte (bytes.getD 7 0)]) = some h

theorem goodNext_of {bytes : List Byte} {h : Header} {s : State}
    (g : (s.held = false ∧ (headerNext bytes s).fp.frame = some (opening (bytes.take 7))) ∧
      (opening (bytes.take 7)).headerDue [.byte (bytes.getD 7 0)] = true ∧
      judgeHeader ((opening (bytes.take 7)).arrived ++ [.byte (bytes.getD 7 0)]) = some h) : GoodNext bytes h s := g

theorem test_meets_GoodHeaderRewritten :
    GoodNext (headerBytes 0xA3 0 0 255) ⟨.address, 0, 0, 255⟩ up ∧
    (GoodNext (headerBytes 0xA1 3 33 9) ⟨.process, 3, 33, 9⟩ up ∧ up.mc.address = 0) ∧
    GoodNext (headerBytes 0xA1 0 33 9) ⟨.process, 0, 33, 9⟩ running ∧
    (GoodNext (headerBytes 0xA1 3 33 9) ⟨.process, 3, 33, 9⟩ standby ∧ standby.mc.address ≠ 0 ∧
      standby.banks.armed ≠ some 3 ∧ standby.banks.gen = 0) ∧
    GoodNext (headerBytes 0xA1 2 33 254) ⟨.process, 2, 33, 254⟩ running ∧ running.mc.address ≠ 0 ∧
      running.banks.armed ≠ some 2 ∧ 2 ≠ running.banks.gen :=
  ⟨goodNext_of (by decide +kernel), ⟨goodNext_of (by decide +kernel), by decide +kernel⟩,
    goodNext_of (by decide +kernel), ⟨goodNext_of (by decide +kernel), by decide +kernel⟩,
    goodNext_of (by decide +kernel), by decide +kernel⟩

theorem test_meets_ProcessedHeaderBindsActiveBank :
    (GoodNext (headerBytes 0xA1 3 33 9) ⟨.process, 3, 33, 9⟩ running ∧
      GoodNext (headerBytes 0xA1 3 32 9) ⟨.process, 3, 32, 9⟩ running) ∧
    running.mc.address ≠ 0 ∧ running.banks.gen ≠ 0 ∧ 3 = running.banks.gen ∧ running.banks.armed ≠ some 3 :=
  ⟨⟨goodNext_of (by decide +kernel), goodNext_of (by decide +kernel)⟩, by decide +kernel⟩

theorem test_meets_ArmedHeaderSwitches :
    (let s := armedAt4 bank standby;
      GoodNext (headerBytes 0xA1 4 33 9) ⟨.process, 4, 33, 9⟩ s ∧ s.mc.address ≠ 0 ∧ s.banks.armed = some 4) ∧
    let s := armedAt4 strobedBank running
    GoodNext (headerBytes 0xA1 4 33 9) ⟨.process, 4, 33, 9⟩ s ∧ s.mc.address ≠ 0 ∧ s.banks.armed = some 4 ∧
      s.banks.activeBank.pgRow 0 ≠ s.banks.stagedBank.pgRow 0 ∧
      s.banks.activeBank.ccRow 0 = s.banks.stagedBank.ccRow 0 :=
  ⟨⟨goodNext_of (by decide +kernel), by decide +kernel⟩, goodNext_of (by decide +kernel), by decide +kernel⟩

theorem test_meets_StrobeHeaderReleasesSet :
    let s := runningOn strobedBank
    let t := { s with store := { s.store with strobePending := some ⟨some 1, s.store.framePending.pgset⟩ } }
    (GoodNext (headerBytes 0xA2 3 0 9) ⟨.strobe, 3, 0, 9⟩ running ∧ running.policy.b3 ≠ 1) ∧
    (GoodNext (headerBytes 0xA2 3 0 9) ⟨.strobe, 3, 0, 9⟩ s ∧ s.banks.gen ≠ 0 ∧ 3 = s.banks.gen ∧
      s.policy.b3 = 1 ∧ s.store.strobePending = none) ∧
    (GoodNext (headerBytes 0xA2 3 0 9) ⟨.strobe, 3, 0, 9⟩ t ∧
      t.store.strobePending = some ⟨some 1, s.store.framePending.pgset⟩) ∧
    t.OwnersDecided :=
  ⟨⟨goodNext_of (by decide +kernel), by decide +kernel⟩, ⟨goodNext_of (by decide +kernel), by decide +kernel⟩,
    ⟨goodNext_of (by decide +kernel), by decide +kernel⟩, by decide +kernel, fun _ h => nomatch h⟩

theorem test_meets_AddressFieldTaken :
    let f := headed .address 0 (nines 8)
    let g := headed .address 0 (nines 8 ++ [.byte 250])
    let value := fun x0 x1 => (Sym.value x0).toNat + 256 * (Sym.value x1).toNat
    ((carrying f up).passing f ∧ f.fieldDue [.byte 1, .error] = true ∧
      f.arrived.drop 8 ++ [.byte 1, .error] = [.byte 1, .error] ∧ value (.byte 1) .error = 1) ∧
    ((carrying g up).passing g ∧ g.fieldDue [.byte 0] = true ∧
      g.arrived.drop 8 ++ [.byte 0] = [.byte 250, .byte 0] ∧ value (.byte 250) (.byte 0) = 250) ∧
    up.mc.mode = .unaddressed ∧ value .error .idle = 0 ∧ value (.byte 251) (.byte 0) = 251 ∧
    (carrying f running).passing f ∧ running.mc.mode ≠ .unaddressed :=
  ⟨⟨passing_of (by decide +kernel), by decide +kernel⟩, ⟨passing_of (by decide +kernel), by decide +kernel⟩,
    by decide +kernel, by decide +kernel, by decide +kernel, passing_of (by decide +kernel), by decide +kernel⟩

/-! The image. -/

/-- At a processed frame after `n` positions. -/
def atImage (n : Nat) (s : State) : State := carrying (processedFrame n) s

theorem passing_image {n : Nat} {s : State} (h : s.held = false) : (atImage n s).passing (processedFrame n) := ⟨h, rfl⟩

theorem test_meets_OutCapturePlacesValue :
    let rows := (running.banks.bank (processedFrame 0).bound).slot
    (atImage 51 running).passing (processedFrame 51) ∧ (atImage 56 running).passing (processedFrame 56) ∧
    (atImage 58 running).passing (processedFrame 58) ∧
    (rows[0].b0 = 1 ∧ rows[0].offset + 3 ≤ 33 ∧ 48 + rows[0].offset + 3 ≤ 51) ∧
    (rows[1].b0 = 2 ∧ rows[1].b1 = BitVec.ofNat 8 (0 : Unit4).val ∧ 48 + rows[1].offset + 4 ≤ 55) ∧
    (rows[2].b0 = 3 ∧ rows[2].b1 = BitVec.ofNat 8 (0 : Unit4).val ∧ 48 + rows[2].offset + 1 ≤ 56) ∧
    rows[3].b0 = 4 ∧ 48 + rows[3].offset + 2 ≤ 58 :=
  ⟨passing_image (by decide +kernel), passing_image (by decide +kernel), passing_image (by decide +kernel),
    by decide +kernel⟩

theorem test_meets_InValueTakenWhole :
    ∀ row ∈ [(4 : Fin 32), 5, 6, 7, 8],
      let rows := (running.banks.bank .bank1).slot
      let r := rows[row]
      let n := 48 + r.offset
      ((atImage n running).held = false ∧ (atImage n running).fp.frame = some (processedFrame n)) ∧
      (processedFrame n).arrived.length = 48 + r.offset ∧ r.offset + r.width ≤ 33 ∧
      (∀ e ∈ rows.toList, e.b0 = r.b0 → e.b1 = r.b1 → e.offset + e.width ≤ 33 → r.offset ≤ e.offset) ∧
      (∀ k ∈ (processedFrame n).taken, some k.chan = r.chan → k.inst ≠ r.b1) ∧
      r.b0 = BitVec.ofNat 8 (0x7D + row.val) ∧ r.b1 = 0 := by decide +kernel

theorem test_meets_DataByteInFrame :
    let ordinary := fun (f : Frame) (s : State) => (s.held = false ∧ s.fp.frame = some f) ∧ s.link.inState = .up ∧
      f.headerDue [.byte 1] = false ∧ f.fieldDue [.byte 1] = false ∧ f.lastOfSegment = false ∧
      f.excessDue = false ∧ f.arrived.length < 564
    let f := { processedFrame 60 with taken := [⟨.snap, 0, [1, 2, 3]⟩] }
    let rows := (running.banks.bank .bank1).slot.toList
    ordinary (headed .process 33 (nines 60)) (carrying (headed .process 33 (nines 60)) running) ∧
    ordinary (processedFrame 81) (atImage 81 running) ∧
    (ordinary (processedFrame 48) (atImage 48 running) ∧
      ∀ r ∈ rows, r.inWithin 33 = true → r.covers 0 = false) ∧
    ordinary f (carrying f running) ∧
    ∃ r ∈ rows, ∃ k ∈ f.taken, r.inWithin 33 = true ∧ r.covers 12 = true ∧
      (∀ e ∈ rows, e.inWithin 33 = true → e.covers 12 = true → e = r) ∧
      some k.chan = r.chan ∧ k.inst = r.b1 ∧
      ∀ j ∈ f.taken, some j.chan = r.chan → j.inst = r.b1 → j = k := by decide +kernel

/-- A frame whose segment has all but the last of these bytes. -/
def allButLast (bytes : List Byte) : Frame := headed .process 33 (nines 8 ++ (bytes.take 39).map Sym.byte)

theorem test_meets_LastByteHasStepEffect :
    let passes := fun (f : Frame) (s : State) => (s.held = false ∧ s.fp.frame = some f) ∧ s.link.inState = .up
    let empty := emptyBytes []
    let identify := requestBytes 0x01 (request [])
    let bad := List.replicate 40 (9 : Byte)
    (passes (opening (bad.take 7)) (headerNext bad up) ∧ (opening (bad.take 7)).headerDue [.byte 9] = true) ∧
    (let f := headed .address 0 (nines 9);
      passes f (carrying f up) ∧ f.fieldDue [.byte 9] = true) ∧
    (passes (allButLast bad) (carrying (allButLast bad) up) ∧
      (allButLast bad).badSegmentDue [.byte 9] = true) ∧
    (passes (allButLast empty) (carrying (allButLast empty) up) ∧ (allButLast empty).lastOfSegment = true ∧
      (allButLast empty).arrived.drop 8 ++ [.byte (empty.getD 39 0)] = empty.map Sym.byte) ∧
    passes (allButLast identify) (carrying (allButLast identify) up) ∧
      (allButLast identify).lastOfSegment = true ∧ (request []).payload.length = 32 ∧
      (allButLast identify).arrived.drop 8 ++ [.byte (identify.getD 39 0)] = identify.map Sym.byte ∧
      anyRequest (.identify (request [])) = some (0x01, request []) := by decide +kernel

theorem test_meets_LastByteHasStepEffect_errors_and_responses :
    let body := List.replicate 37 (1 : Byte)
    let response := 2 :: body ++ bytes16 (crc16 (2 :: body))
    (∀ x ∈ [Sym.error, .idle], (opening (List.replicate 7 9)).headerDue [x] = true ∧
      (headed .address 0 (nines 9)).fieldDue [x] = true ∧ (allButLast response).lastOfSegment = true) ∧
    ((carrying (allButLast response) running).held = false ∧
      (carrying (allButLast response) running).fp.frame = some (allButLast response)) ∧
    (carrying (allButLast response) running).link.inState = .up ∧
    (allButLast response).arrived.drop 8 ++ [.byte (response.getD 39 0)] = response.map Sym.byte := by
  decide +kernel

theorem test_meets_ExcessByteForwarded :
    ∀ n ∈ [12, 13, 563, 564],
      let f := headed .strobe 0 (nines n)
      let s : State := { up with fp := ⟨some f, 0⟩ }
      (s.held = false ∧ s.fp.frame = some f) ∧ s.link.inState = .up ∧ f.header = .good .strobe 0 ∧
      expectedLength .strobe 0 ≤ f.arrived.length := by decide +kernel

/-! The frame end. -/

theorem test_meets_TrailerJudgedAndWritten :
    ∀ f ∈ [headed .process 33 (nines 12), processedFrame 85],
      let sent := List.replicate (f.arrived.length - 4) (OutSym.data 9)
      let old := List.replicate 4 (OutSym.data 9)
      12 ≤ f.arrived.length ∧ f.arrived.length ≤ 8 + 40 + 33 + 4 ∧ sent.length = f.arrived.length - 4 ∧
      old.length = 4 := by decide +kernel

set_option maxRecDepth 100000 in
theorem test_meets_FrameEndThatAppliesNothing :
    let passes := fun (f : Frame) => ((carrying f up).held = false ∧ (carrying f up).fp.frame = some f) ∧
      (carrying f up).link.inState = .up
    (passes (opening []) ∧ (opening []).header = .awaited) ∧
    (passes { beforeSegment with header := .bad } ∧ { beforeSegment with header := .bad }.header = .bad) ∧
    (passes (processedFrame 85) ∧ (processedFrame 85).trailerGood .process 33 = false) ∧
    (passes (closed (headed .strobe 0 (nines 8))) ∧
      (closed (headed .strobe 0 (nines 8))).trailerGood .strobe 0 = true) ∧
    (passes (headed .process 33 (nines 85)) ∧ (headed .process 33 (nines 85)).processed = false) ∧
    passes (closed (headed .address 0 (nines 10))) ∧ (headed .address 0 (nines 10)).provisional = none := by
  decide +kernel

/-- The end of a good processed frame with all four kinds of OUT value. -/
def goodEnd (s : State) : State :=
  carrying (closed (processedFrame 81)) { s with
    store := { s.store with framePending :=
      ⟨some 1, FramePending.empty.pgset.set 0 (some ⟨10, 4⟩), FramePending.empty.ccctl.set 0 (some 1), some 0⟩ } }

set_option maxRecDepth 100000 in
theorem test_meets_GoodProcessedEndApplies :
    ∀ s ∈ [goodEnd running, goodEnd (runningOn strobedBank), goodEnd fallen],
      let f := closed (processedFrame 81)
      (s.held = false ∧ s.fp.frame = some f) ∧ s.link.inState = .up ∧ f.header = .good .process 33 ∧
      f.processed = true ∧ f.trailerGood .process 33 = true := by decide +kernel

theorem test_meets_GoodProcessedEndApplies_owners : (goodEnd running).OwnersDecided ∧ (goodEnd fallen).OwnersDecided :=
  ⟨⟨by decide +kernel, fun f h hp => by cases h; cases hp⟩, ⟨by decide +kernel, fun f h hp => by cases h; cases hp⟩⟩

theorem test_meets_AddressEndTakesAddress :
    let f := { closed (headed .address 0 (nines 10)) with provisional := some 250 }
    (carrying f up).passing f ∧ (carrying f up).link.inState = .up ∧ f.header = .good .address 0 ∧
    f.provisional = some 250 ∧ f.trailerGood .address 0 = true :=
  ⟨passing_of (by decide +kernel), by decide +kernel⟩

theorem test_meets_FrameAborts :
    ∀ f ∈ [opening [], { processedFrame 564 with header := .good .process 512 }],
      let s : State := { up with fp := ⟨some f, 0⟩ }
      ((s.held = false ∧ s.fp.frame = some f) ∧ s.link.inState = .up) ∧
      (f.header ≠ .awaited → f.arrived.length = 564) := by decide +kernel

/-! Segments and requests. -/

theorem test_meets_ResponseReplacesSegment :
    (requestBytes 0x11 (request [1])).length = 40 ∧ 8 ≤ beforeSegment.arrived.length ∧
    beforeSegment.arrived.length < 48 ∧ (allButLast (requestBytes 0x11 (request [1]))).arrived.length < 48 ∧
    (List.replicate 32 (1 : Byte)).length ≤ 32 := by decide +kernel

theorem test_meets_RequestToOthersForwarded :
    let rq := request [24]
    let f := allButLast (requestBytes 0x31 rq)
    let bad := { f with header := .bad }
    anyRequest (.releasePin rq) = some (0x31, rq) ∧
    ((carrying f up).passing f ∧ f.segmentDue (requestBytes 0x31 rq) = true ∧ up.mc.address = 0) ∧
    (let s := { standby with mc := { standby.mc with address := 6 } };
      (carrying f s).passing f ∧ rq.address ≠ s.mc.address) ∧
    (carrying bad running).passing bad ∧ bad.segmentDue (requestBytes 0x31 rq) = true ∧ bad.header = .bad :=
  ⟨rfl, ⟨passing_of (by decide +kernel), by decide +kernel⟩, ⟨passing_of (by decide +kernel), by decide +kernel⟩,
    passing_of (by decide +kernel), by decide +kernel⟩

theorem test_meets_EmptyAndBadSegments :
    let answering := { running with mx := { running.mx with slot := .answering ⟨7, 0x20, 0, 0, []⟩ } }
    ((atSegment answering).passing beforeSegment ∧ beforeSegment.segmentDue (emptyBytes []) = true ∧
      (atSegment answering).handsOver beforeSegment = true) ∧
    ((atSegment running).passing beforeSegment ∧ ∀ r, (atSegment running).mx.slot ≠ .answering r) ∧
    (atSegment up).passing beforeSegment ∧ (atSegment up).handsOver beforeSegment = false ∧
    beforeSegment.badSegmentDue (nines 40) = true :=
  ⟨⟨passing_of (by decide +kernel), by decide +kernel⟩, ⟨passing_of (by decide +kernel), (fun _ h => nomatch h)⟩,
    passing_of (by decide +kernel), by decide +kernel⟩

theorem test_meets_AnsweredWhateverTheSlot :
    (∀ code, (atSegment running).meets beforeSegment code (request [])) ∧
    (∀ code, (atSegment running).meets beforeSegment code (request [1])) ∧
    (request []).length = 0 ∧ (request [1]).length ≠ 0 ∧ 0x00 ∉ knownCodes ∧ 0xFF ∉ knownCodes :=
  ⟨fun _ => meets_at _ _ _ (by decide +kernel), fun _ => meets_at _ _ _ (by decide +kernel), by decide +kernel⟩

theorem test_meets_RequestLeftDisplacedOrReplayed :
    let working := { running with mx := { running.mx with slot := .working 7 0x21 } }
    let answering := { running with mx := { running.mx with slot := .answering ⟨7, 0x20, 0, 0, []⟩ } }
    let answered := { running with mx := { running.mx with last := some ⟨7, 0x21, 0, 0, []⟩ } }
    replayableOrLong (.arm (request [4])) = some (0x21, request [4]) ∧
    ((atSegment working).meets beforeSegment 0x21 (request [4]) ∧ (atSegment working).mx.slot = .working 7 0x21) ∧
    ((atSegment answering).meets beforeSegment 0x21 (request [4]) ∧
      (atSegment answering).mx.slot = .answering ⟨7, 0x20, 0, 0, []⟩) ∧
    (atSegment answered).meets beforeSegment 0x21 (request [4]) ∧ (atSegment answered).mx.slot = .idle ∧
      (atSegment answered).mx.last = some ⟨7, 0x21, 0, 0, []⟩ ∧ 7 = (request [4]).tag :=
  ⟨rfl, ⟨meets_at _ _ _ (by decide +kernel), rfl⟩, ⟨meets_at _ _ _ (by decide +kernel), rfl⟩,
    meets_at _ _ _ (by decide +kernel), rfl, rfl, rfl⟩

theorem test_meets_OpenViewSetsView :
    (∀ p, (atSegment running).meetsIdle beforeSegment 0x10 (request p)) ∧
    (request [0, 0]).length ≠ 3 ∧ (request [0, 0, 0]).length = 3 ∧
    1 < (requestByte (request [2, 0, 0]) 0).toNat ∧ 3 < (requestByte (request [0, 4, 0]) 1).toNat ∧
    (∀ e ∈ [((0 : Byte), (32 : Nat)), (1, 24), (2, 8), (3, 1)], e.2 ≤ (requestByte (request [1, e.1, BitVec.ofNat 8 e.2]) 2).toNat ∧
      (requestByte (request [1, e.1, BitVec.ofNat 8 (e.2 - 1)]) 2).toNat < e.2) :=
  ⟨fun _ => idle_at _ _ _ (by decide +kernel), by decide +kernel⟩

theorem test_meets_ReadRowsReadsView :
    let s := { running with mx := { running.mx with view := ⟨.active, .pin, 20⟩ } }
    let n := fun k => (requestByte (request [k]) 0).toNat
    (∀ p, (atSegment s).meetsIdle beforeSegment 0x11 (request p)) ∧
    (request []).length ≠ 1 ∧ (request [0]).length = 1 ∧ n 0 = 0 ∧ 4 < n 5 ∧
    ((1 ≤ n 4 ∧ n 4 ≤ 4) ∧ s.mx.view.next + n 4 ≤ s.mx.view.table.size) ∧
    let t := { running with mx := { running.mx with view := ⟨.active, .policy, 1⟩ } }
    (atSegment t).meetsIdle beforeSegment 0x11 (request [1]) ∧ t.mx.view.table.size < t.mx.view.next + n 1 :=
  ⟨fun _ => idle_at _ _ _ (by decide +kernel), by decide +kernel, by decide +kernel, by decide +kernel,
    by decide +kernel, by decide +kernel, idle_at _ _ _ (by decide +kernel), by decide +kernel⟩

theorem test_meets_WriteRowsStoresInStaged :
    let s := { running with mx := { running.mx with view := ⟨.staged, .slot, 28⟩ } }
    let t := { running with mx := { running.mx with view := ⟨.staged, .slot, 29⟩ } }
    let rq := request (List.replicate 32 1)
    ((atSegment running).meetsIdle beforeSegment 0x12 rq ∧ running.mx.view.role = .active) ∧
    ((atSegment s).meetsIdle beforeSegment 0x12 (request []) ∧ s.mx.view.role = .staged) ∧
    ((atSegment s).meetsIdle beforeSegment 0x12 rq ∧ rq.length.toNat = 32 ∧
      s.mx.view.next + rq.length.toNat / 8 ≤ s.mx.view.table.size) ∧
    (atSegment t).meetsIdle beforeSegment 0x12 rq ∧ t.mx.view.table.size < t.mx.view.next + rq.length.toNat / 8 :=
  ⟨⟨idle_at _ _ _ (by decide +kernel), rfl⟩, ⟨idle_at _ _ _ (by decide +kernel), rfl⟩,
    ⟨idle_at _ _ _ (by decide +kernel), by decide +kernel⟩, idle_at _ _ _ (by decide +kernel), by decide +kernel⟩

theorem test_meets_LongRequestsStartOrAreRefused :
    (∀ code p, (atSegment running).meetsIdle beforeSegment code (request p)) ∧
    (request [0]).length ≠ 0 ∧ (request []).length = 0 ∧ (request [4]).length = 1 ∧
    requestByte (request [0]) 0 = 0 ∧ requestByte (request [3]) 0 = running.banks.gen ∧
    requestByte (request [4]) 0 ≠ 0 ∧ requestByte (request [4]) 0 ≠ running.banks.gen :=
  ⟨fun _ _ => idle_at _ _ _ (by decide +kernel), by decide +kernel⟩

theorem test_meets_ShortRequestsExecute :
    let s := { running with mc := { running.mc with restart := some 2 } }
    (∀ code p, (atSegment running).meetsIdle beforeSegment code (request p)) ∧
    (request [0]).length ≠ 0 ∧ (request []).length = 0 ∧ running.mc.restart = none ∧
    (atSegment s).meetsIdle beforeSegment 0x43 (request []) ∧ s.mc.restart ≠ none :=
  ⟨fun _ _ => idle_at _ _ _ (by decide +kernel), by decide +kernel, by decide +kernel, by decide +kernel,
    idle_at _ _ _ (by decide +kernel), by decide +kernel⟩

theorem test_meets_PinsFollowPrecedence :
    let pulsing := { running with pg := running.pg.set 0 ⟨.running 2, 4, 2, 6, 1, true, false⟩ }
    let forced := { running with pins := { running.pins with
      force := running.pins.force.set 0 (some .high), owner := running.pins.owner.set 0 .force } }
    (running.pins.force[(0 : Pin)] = none ∧ running.mc.mode ≠ .fallback ∧ running.pins.owner[(0 : Pin)] = .direct) ∧
    (running.banks.activeBank.pin[(1 : Pin)].claimants = [] ++ 2 :: [0, 0] ∧
      (2 : Byte) = BitVec.ofNat 8 (2 + (0 : Unit4).val) ∧ pulsing.pg[(0 : Unit4)].state = .running 2 ∧
      pulsing.redecide.pins.owner[(1 : Pin)] = .pulse 0) ∧
    (running.banks.activeBank.pin[(2 : Pin)].claimants = [6, 10, 0] ∧ running.pins.owner[(2 : Pin)] = .idle) ∧
    (fallen.pins.force[(0 : Pin)] = none ∧ fallen.mc.mode = .fallback ∧ fallen.pins.owner[(0 : Pin)] = .fallback ∧
      fallen.banks.activeBank.pin[(0 : Pin)].b4 = 2 ∧ fallen.banks.activeBank.pin[(1 : Pin)].b4 = 0 ∧
      fallen.pins.held[(1 : Pin)] = some .pullup) ∧
    forced.held = false ∧ forced.pins.owner[(0 : Pin)] = .force ∧ forced.pins.force[(0 : Pin)] = some .high := by
  decide +kernel

theorem test_meets_ForceRequestsExecute :
    let s := runningOn strobedBank
    let b := fun p => requestByte (request p)
    (∀ code p, (atSegment running).meetsIdle beforeSegment code (request p)) ∧
    ((atSegment s).meetsIdle beforeSegment 0x30 (request [0, 0]) ∧ s.mc.mode ≠ .standby ∧ s.policy.b5 ≠ 1) ∧
    ((atSegment standby).meetsIdle beforeSegment 0x30 (request [0, 0]) ∧ standby.mc.mode = .standby) ∧
    running.policy.b5 = 1 ∧ (request [0]).length ≠ 2 ∧ (request [23, 3]).length = 2 ∧ 24 ≤ (b [24, 0] 0).toNat ∧
    ¬ (b [0, 1] 1 = 0 ∨ b [0, 1] 1 = 2 ∨ b [0, 1] 1 = 3) ∧ (b [23, 3] 0).toNat = (23 : Pin).val ∧
    (b [0, 0] 0).toNat = (0 : Pin).val ∧ (request []).length ≠ 1 ∧ 24 ≤ (b [24] 0).toNat ∧ 24 ≤ (b [254] 0).toNat ∧
    b [255] 0 = 255 :=
  ⟨fun _ _ => idle_at _ _ _ (by decide +kernel), ⟨idle_at _ _ _ (by decide +kernel), by decide +kernel⟩,
    ⟨idle_at _ _ _ (by decide +kernel), by decide +kernel⟩, by decide +kernel⟩

theorem test_meets_ModeRequestsExecute :
    (∀ code p, (atSegment running).meetsIdle beforeSegment code (request p)) ∧
    (∀ code p, (atSegment fallen).meetsIdle beforeSegment code (request p)) ∧
    (∀ code p, (atSegment standby).meetsIdle beforeSegment code (request p)) ∧
    running.mc.mode = .running ∧ fallen.mc.mode = .fallback ∧ standby.mc.mode = .standby ∧
    (request []).length = 0 ∧ (request [0]).length ≠ 0 :=
  ⟨fun _ _ => idle_at _ _ _ (by decide +kernel), fun _ _ => idle_at _ _ _ (by decide +kernel),
    fun _ _ => idle_at _ _ _ (by decide +kernel), by decide +kernel⟩

/-! Validation, time, units, invariants. -/

theorem test_meets_LongOperationsComplete :
    let cloning := { running with
      banks := { running.banks with longOp := .cloning }, mx := { running.mx with slot := .working 7 0x20 } }
    let validating := fun b => { running with
      banks := { running.banks.setStaged b with longOp := .validating 4 }
      mx := { running.mx with slot := .working 7 0x21 } }
    (cloning.held = false ∧ cloning.mx.slot = .working 7 0x20 ∧ cloning.banks.longOp = .cloning) ∧
    ((validating bank).held = false ∧ (validating bank).mx.slot = .working 7 0x21 ∧
      (validating bank).banks.longOp = .validating 4 ∧ validate (validating bank).banks.stagedBank = none) ∧
    (validating Bank.zero).held = false ∧ (validating Bank.zero).mx.slot = .working 7 0x21 ∧
    (validating Bank.zero).banks.longOp = .validating 4 ∧
    validate (validating Bank.zero).banks.stagedBank = some ⟨.policy, 0, .badValue⟩ := by decide +kernel

theorem test_meets_PinAndSlotRowsValidated :
    let slot := fun i bs => validate (bank.setRow .slot i (Row.ofBytes bs))
    let pin := fun i bs => validate (bank.setRow .pin i (Row.ofBytes bs))
    validate bank = none ∧
    pin 23 [11] = some ⟨.pin, 23, .badValue⟩ ∧ pin 3 [1, 0, 1] = some ⟨.pin, 3, .duplicate⟩ ∧
    pin 23 [6] = some ⟨.pin, 23, .multiplaced⟩ ∧ pin 1 [] = some ⟨.func, 0, .unplaced⟩ ∧
    pin 2 [10] = some ⟨.func, 4, .unplaced⟩ ∧ slot 31 [0x81, 1, 40] = some ⟨.slot, 31, .badValue⟩ ∧
    slot 31 [0x81, 0, 0xFE, 1] = some ⟨.slot, 31, .range⟩ ∧ slot 31 [0x81, 0, 0xFD, 1] = none ∧
    slot 31 [0x84, 0, 100, 0, 1] = some ⟨.slot, 31, .duplicate⟩ ∧ slot 31 [1, 0, 100] = some ⟨.slot, 31, .duplicate⟩ ∧
    slot 31 [0x81, 0, 12] = some ⟨.slot, 31, .overlap⟩ := by decide +kernel

theorem test_meets_TicksDriveTheTimebase :
    let s := { running with pg := running.pg.set 0 ⟨.running 4, 4, 2, 6, 1, true, false⟩ }
    let t := { running with pg := running.pg.set 0 ⟨.running 2, 4, 2, 6, 1, true, false⟩ }
    (s.held = false ∧ s.pg[(0 : Unit4)].state = .running 4 ∧ s.pg[(0 : Unit4)].period.toNat ≤ 4) ∧
    (t.held = false ∧ t.pg[(0 : Unit4)].state = .running 2 ∧ t.pg[(0 : Unit4)].width.toNat ≤ 2 ∧
      2 < t.pg[(0 : Unit4)].period.toNat) ∧
    switched.held = false ∧ switched.pg[(0 : Unit4)].restarted = true ∧ running.sampler.due = false := by
  decide +kernel

theorem test_meets_SampleDebouncesAndDelivers :
    let at9 := fun s : State => { s with sampler := { s.sampler with phase := 9 } }
    (after .tickIncrement (at9 standby)).held = false ∧ (after .tickIncrement (at9 standby)).sampler.due = true ∧
    (after .tickIncrement (at9 running)).held = false ∧ (after .tickIncrement (at9 running)).sampler.due = true := by
  decide +kernel

theorem test_meets_FrameWatchExpiryEntersFallback :
    let s := { running with mc := { running.mc with timer := some 0 } }
    s.held = false ∧ s.mc.mode = .running ∧ s.mc.timer = some 0 := by decide +kernel

theorem test_meets_SetpointAdopted :
    (PulseGen.mk .off 0 0 0 0 false false).state = .off ∧ (PulseGen.mk .stopped 0 0 0 0 false false).state = .stopped ∧
    (PulseGen.mk (.running 3) 4 2 6 1 true false).state = .running 3 ∧ (Setpoint.mk 0 1).period = 0 ∧
    (Setpoint.mk 1 0).period ≠ 0 := by decide

theorem test_meets_CounterTakesEdge :
    (Row.ofBytes [0, 0]).b0 ≠ 1 ∧ (Row.ofBytes [1, 2]).b0 = 1 ∧ (Row.ofBytes [1, 2]).b1.toNat ≤ 2 ∧
    (Row.ofBytes [1, 3]).b1 = 3 ∧ CounterCapture.cleared.ref = none ∧ (CounterCapture.mk 0 0 (some 9)).ref = some 9 := by
  decide

/-- A queue of `n` records whose newest has the number `n - 1`. -/
def queueOf (n : Nat) : EventQueue :=
  ⟨(List.range n).map fun i => ⟨BitVec.ofNat 16 i, 2, true, 0, 0⟩, BitVec.ofNat 16 n, 0⟩

theorem test_meets_EdgePostedOrLost :
    (queueOf 31).records.length < 32 ∧ (queueOf 32).records.length = 32 := by decide +kernel

theorem test_meets_AcknowledgementRemovesRecords :
    (queueOf 32).Consecutive ∧ (queueOf 0).Consecutive ∧
    let o := (queueOf 32).nextSeq - BitVec.ofNat 16 (queueOf 32).records.length
    0 < (queueOf 32).records.length ∧ o = o + BitVec.ofNat 16 0 ∧ 31 < (queueOf 32).records.length ∧
    (∀ k, k < (queueOf 32).records.length → o + 32 ≠ o + BitVec.ofNat 16 k) ∧ o + 32 ≠ o - 1 :=
  ⟨⟨by decide +kernel, by decide +kernel⟩, ⟨by decide +kernel, by decide +kernel⟩, by decide +kernel⟩

/-- A node at which a tick is the next command. -/
def tickNext : State := { State.reset with pending := [.tickIncrement] }

theorem test_meets_invariants_step : ∃ t, step tickNext = .next t := ⟨_, rfl⟩

theorem test_meets_QueueAndViewKept : tickNext.queue.Consecutive ∧ tickNext.ViewOk :=
  ⟨⟨by decide, fun _ h => nomatch h⟩, Nat.zero_le _⟩

theorem test_meets_OwnersStayDecided : tickNext.OwnersDecided := ⟨by decide +kernel, fun _ h => nomatch h⟩

theorem test_meets_NodeStaysConsistent : tickNext.Consistent :=
  ⟨⟨by decide +kernel, by decide +kernel, fun _ _ h => nomatch h⟩,
    ⟨by decide +kernel, by decide +kernel, by decide +kernel, (fun _ h => nomatch h), (fun _ h => nomatch h)⟩,
    ⟨by decide +kernel, ⟨fun h => absurd rfl h, (fun ⟨_, _, h⟩ => nomatch h)⟩, by decide +kernel, by decide +kernel⟩⟩

theorem test_meets_PulseGeneratorsStayOk : tickNext.PulseOk := by
  intro n
  match n with
  | 0 => exact ⟨rfl, rfl, by decide +kernel, rfl, rfl, rfl⟩
  | 1 => exact ⟨rfl, rfl, by decide +kernel, rfl, rfl, rfl⟩
  | 2 => exact ⟨rfl, rfl, by decide +kernel, rfl, rfl, rfl⟩
  | 3 => exact ⟨rfl, rfl, by decide +kernel, rfl, rfl, rfl⟩

theorem test_meets_FrameStaysInOrder : tickNext.FrameOk := ⟨(fun _ h => nomatch h), .inl rfl⟩

end Sys2Proof.Tests
end

section
/-! SUPPORT. How an invariant is carried over a step, and what the execution of a request leaves alone. -/

namespace Sys2Proof.Machine

/-! ### A step -/

/-- A property that does not speak of the queue of commands is kept by every step when every command keeps it. -/
theorem keptByEveryStep_of_exec {P : State → Prop} (hq : ∀ s q, P s → P { s with pending := q })
    (he : ∀ c s t, P s → exec c s = .next t → P t) : KeptByEveryStep P := by
  intro s t hs h
  unfold step at h
  split at h
  · cases h
    exact hs
  · exact he _ _ _ (hq _ _ hs) h

/-- A command that acts only on the frame in passage keeps what its action keeps. -/
theorem keeps_onFrame {P : State → Prop} {act : Frame → State → State} {s : State} (hs : P s)
    (ha : ∀ f, s.passing f → P (act f s)) :
    P (if s.held then s else match s.fp.frame with
      | none => s
      | some f => act f s) := by
  split
  · exact hs
  · rename_i hh
    split
    · exact hs
    · rename_i f hf
      exact ha f ⟨by simpa using hh, hf⟩

/-! ### The execution of a request -/

/-- Table 8-5: the executions of the fourteen replayable and long requests. -/
inductive Execution (rq : Request) : (State → Answer × State) → Prop
  | openView : Execution rq (openView rq)
  | readRows : Execution rq (readRows rq)
  | writeRows : Execution rq (writeRows rq)
  | clone : Execution rq (noPayload rq (startLong .cloning 0x20 rq))
  | arm : Execution rq (armRequest rq)
  | disarm : Execution rq (noPayload rq fun t => (.plain stOk (disarmedFlag t), t.clearArmed))
  | forcePin : Execution rq (forcePin rq)
  | releasePin : Execution rq (releasePin rq)
  | enterFallback : Execution rq (noPayload rq enterFallbackRequest)
  | resume : Execution rq (noPayload rq resumeRequest)
  | releaseAddress : Execution rq (noPayload rq releaseAddress)
  | restart : Execution rq (noPayload rq restartRequest)
  | clearStats : Execution rq (noPayload rq fun t => (.plain stOk 0, t.setStats Stats.zero))
  | clearCause : Execution rq (noPayload rq fun t =>
      (.plain stOk 0, { t with mc := { t.mc with resetCause := ⟨false, false, false⟩ } }))

/-- What the handler of a request with this code is: it answers at once, whatever the slot, or lets the slot decide on
one of the fourteen executions. -/
inductive Handles (code : Byte) (rq : Request) : (State → Option Response × State) → Prop
  | atOnce (answer : State → Answer) : Handles code rq (answerAtOnce code rq answer)
  | bySlot {perform : State → Answer × State} (h : Execution rq perform) : Handles code rq (replayable code rq perform)

/-- Table 10-12: every code has such a handler. -/
theorem handleRequest_handles (code : Byte) (rq : Request) : Handles code rq (handleRequest code rq) := by
  unfold handleRequest
  iterate 3 refine iteInduction (by rintro rfl; exact .atOnce _) fun _ => ?_
  refine iteInduction (by rintro rfl; exact .bySlot .openView) fun _ => ?_
  refine iteInduction (by rintro rfl; exact .bySlot .readRows) fun _ => ?_
  refine iteInduction (by rintro rfl; exact .bySlot .writeRows) fun _ => ?_
  refine iteInduction (by rintro rfl; exact .bySlot .clone) fun _ => ?_
  refine iteInduction (by rintro rfl; exact .bySlot .arm) fun _ => ?_
  refine iteInduction (by rintro rfl; exact .bySlot .disarm) fun _ => ?_
  refine iteInduction (by rintro rfl; exact .bySlot .forcePin) fun _ => ?_
  refine iteInduction (by rintro rfl; exact .bySlot .releasePin) fun _ => ?_
  refine iteInduction (by rintro rfl; exact .bySlot .enterFallback) fun _ => ?_
  refine iteInduction (by rintro rfl; exact .bySlot .resume) fun _ => ?_
  refine iteInduction (by rintro rfl; exact .bySlot .releaseAddress) fun _ => ?_
  refine iteInduction (by rintro rfl; exact .bySlot .restart) fun _ => ?_
  refine iteInduction (by rintro rfl; exact .bySlot .clearStats) fun _ => ?_
  refine iteInduction (by rintro rfl; exact .bySlot .clearCause) fun _ => ?_
  exact .atOnce _

/-- What a request changes is the banks' contents and arming, the pins, the settle counts, the Mode Controller, the
exchange and the statistics. -/
structure RequestKeeps (s t : State) : Prop where
  active : t.banks.active = s.banks.active
  activeBank : t.banks.activeBank = s.banks.activeBank
  gen : t.banks.gen = s.banks.gen
  store : t.store = s.store
  sampler : t.sampler = { s.sampler with settle := t.sampler.settle }
  pg : t.pg = s.pg
  cc : t.cc = s.cc
  queue : t.queue = s.queue
  fp : t.fp = s.fp
  link : t.link = s.link
  hold : t.hold = s.hold

theorem RequestKeeps.refl (s : State) : RequestKeeps s s := by
  constructor <;> rfl

theorem RequestKeeps.trans {s t u : State} (h : RequestKeeps s t) (k : RequestKeeps t u) : RequestKeeps s u where
  active := k.active.trans h.active
  activeBank := k.activeBank.trans h.activeBank
  gen := k.gen.trans h.gen
  store := k.store.trans h.store
  sampler := by rw [k.sampler, h.sampler]
  pg := k.pg.trans h.pg
  cc := k.cc.trans h.cc
  queue := k.queue.trans h.queue
  fp := k.fp.trans h.fp
  link := k.link.trans h.link
  hold := k.hold.trans h.hold

theorem RequestKeeps.redecide {s t : State} (h : RequestKeeps s t) : RequestKeeps s t.redecide := by
  refine h.trans ?_
  rw [State.redecide_frame]
  constructor <;> rfl

theorem RequestKeeps.enterFallback (s : State) (c : Cause) : RequestKeeps s (s.enterFallback c) := by
  rw [State.enterFallback_frame]
  constructor <;> rfl

theorem RequestKeeps.leaveFallback (s : State) : RequestKeeps s s.leaveFallback := by
  rw [State.leaveFallback_frame]
  constructor <;> rfl

theorem RequestKeeps.storeRows (s : State) (t : TableId) (i : Nat) (rs : List Row) :
    RequestKeeps s (s.storeRows t i rs) where
  active := BankUnit.active_setStaged _ _
  activeBank := BankUnit.activeBank_setStaged _ _
  gen := BankUnit.gen_setStaged _ _
  store := rfl
  sampler := rfl
  pg := rfl
  cc := rfl
  queue := rfl
  fp := rfl
  link := rfl
  hold := rfl

theorem RequestKeeps.noPayload {rq : Request} {perform : State → Answer × State} {s : State}
    (h : RequestKeeps s (perform s).2) : RequestKeeps s (noPayload rq perform s).2 := by
  unfold Machine.noPayload
  split
  · exact .refl s
  · exact h

/-- Each of the fourteen executions keeps what a request keeps. -/
theorem Execution.keeps {rq : Request} {perform : State → Answer × State} (h : Execution rq perform) (s : State) :
    RequestKeeps s (perform s).2 := by
  cases h with
  | openView =>
    unfold Machine.openView
    repeat' split
    all_goals constructor <;> rfl
  | readRows =>
    unfold Machine.readRows
    dsimp only
    repeat' split
    all_goals constructor <;> rfl
  | writeRows =>
    unfold Machine.writeRows
    dsimp only
    iterate 3
      split
      · exact .refl s
    exact (RequestKeeps.storeRows s _ _ _).trans (by constructor <;> rfl)
  | clone => exact .noPayload (by constructor <;> rfl)
  | arm =>
    unfold armRequest
    dsimp only
    repeat' split
    all_goals constructor <;> rfl
  | disarm => exact .noPayload (by constructor <;> rfl)
  | forcePin =>
    unfold Machine.forcePin
    repeat' split
    case h_2.isTrue => exact RequestKeeps.redecide (by constructor <;> rfl)
    all_goals exact .refl s
  | releasePin =>
    unfold Machine.releasePin State.releaseAll
    split
    · exact .refl s
    split
    · exact RequestKeeps.redecide (by constructor <;> rfl)
    split
    · exact RequestKeeps.redecide (by constructor <;> rfl)
    · exact .refl s
  | enterFallback =>
    refine .noPayload ?_
    unfold enterFallbackRequest
    split
    · exact .enterFallback s _
    split
    · constructor <;> rfl
    · exact .refl s
  | resume =>
    refine .noPayload ?_
    unfold resumeRequest
    split
    · exact .leaveFallback s
    · exact .refl s
  | releaseAddress =>
    refine .noPayload ?_
    unfold Machine.releaseAddress State.releaseAll
    split
    · exact RequestKeeps.redecide (by constructor <;> rfl)
    · exact .refl s
  | restart => exact .noPayload (by constructor <;> rfl)
  | clearStats => exact .noPayload (by constructor <;> rfl)
  | clearCause => exact .noPayload (by constructor <;> rfl)

/-- A property that every counter, the slot's release, the last-answered record and the execution in an IDLE slot keep
is kept by the handling of a request. -/
theorem Handles.keeps {P : State → Prop} {code : Byte} {rq : Request} {handle : State → Option Response × State}
    {s : State} (h : Handles code rq handle) (hs : P s)
    (hstats : ∀ u c, P u → P (u.setStats c))
    (hidle : ∀ u r, P u → u.mx.slot = .answering r → P (u.setSlot .idle))
    (hlast : ∀ u r, P u → P (u.setLast r))
    (hexec : ∀ perform, Execution rq perform → s.mx.slot = .idle → P (perform s.countConsumed).2) :
    P (handle s).2 := by
  cases h with
  | atOnce answer => exact hstats s _ hs
  | bySlot hp =>
    rename_i perform
    cases hslot : s.mx.slot with
    | working tag op =>
      rw [replayable_working hslot]
      exact hstats s _ hs
    | answering r =>
      rw [replayable_answering hslot]
      exact hidle _ r (hstats s _ hs) hslot
    | idle =>
      simp only [replayable, hslot]
      split
      · exact hstats _ _ (hstats s _ hs)
      · simp only [executeRequest]
        split
        · exact hlast _ _ (hexec perform hp hslot)
        · exact hexec perform hp hslot

/-- The handling of any request keeps what a request keeps. -/
theorem handleRequest_requestKeeps (code : Byte) (rq : Request) (s : State) :
    RequestKeeps s (handleRequest code rq s).2 := by
  refine (handleRequest_handles code rq).keeps (P := RequestKeeps s) (.refl s) ?_ ?_ ?_ ?_
  · exact fun u c h => h.trans (by constructor <;> rfl)
  · exact fun u r h _ => h.trans (by constructor <;> rfl)
  · exact fun u r h => h.trans (by constructor <;> rfl)
  · exact fun perform h _ => RequestKeeps.trans (t := s.countConsumed) (by constructor <;> rfl) (h.keeps _)

/-! ### The commands -/

/-- What has to keep `P` for every command to keep it: one clause for each thing a command can do when it is due. -/
structure KeptByActions (P : State → Prop) : Prop where
  beginReset : ∀ s cause hold, P s → P (s.beginReset cause hold)
  leaveReset : ∀ s field, P s → s.held = true → P (s.leaveReset field)
  holdMoves : ∀ s hold, P s → s.held = true → P { s with hold := hold }
  symbolArrives : ∀ s sym, P s → s.held = false → P (s.symbolArrives sym)
  errorArrives : ∀ s, P s → s.held = false → P s.errorArrives
  linkRises : ∀ s, P s → s.linkUpDue = true → P { s with link := s.link.rise }
  linkDown : ∀ s, P s → s.held = false → s.link.inState ≠ .down → P s.linkDown
  headerArrives : ∀ s f rest, P s → s.passing f → f.headerDue rest = true → P (s.headerArrives f rest)
  fieldArrives : ∀ s f rest, P s → s.passing f → f.fieldDue rest = true → P (s.fieldArrives f rest)
  badSegmentArrives : ∀ s f rest, P s → s.passing f → f.badSegmentDue rest = true → P (s.badSegmentArrives f rest)
  emptyArrives : ∀ s f body, P s → s.passing f → f.segmentDue (emptyBytes body) = true →
    P (s.emptyArrives f (emptyBytes body))
  requestArrives : ∀ s f code rq, P s → s.passing f → f.segmentDue (requestBytes code rq) = true →
    P (s.requestArrives f (requestBytes code rq) rq (handleRequest code rq))
  capture : ∀ s f L row, P s → s.passing f → f.imageLength = some L → captureDue f (s.boundRow f row) L = true →
    P (s.capture f (s.boundRow f row))
  takeValue : ∀ s f L row, P s → s.passing f → f.imageLength = some L →
    takeDue f (s.banks.bank f.bound).slot.toList (s.boundRow f row) L = true → P (s.takeValue f (s.boundRow f row))
  excessByte : ∀ s f b, P s → s.passing f → f.excessDue = true → P ((s.validLink false).frameSymbol f (.byte b))
  endFrame : ∀ s f, P s → s.passing f → P ((s.validLink false).endFrame f)
  abortFor : ∀ s f cause, P s → s.passing f → P (s.abortFor cause f)
  delimiterLeaves : ∀ s x rest, P s → s.held = false → firstDelimiter s.link.line = some (x, rest) →
    P { s with link := s.link.leave x rest, mc := s.mc.frameLeft x }
  sample : ∀ s field, P s → s.sampleDue = true →
    P { s.takeSample (s.rawLevels field) with freeCount := s.freeCount + 1 }
  expiry : ∀ s, P s → s.expiryDue = true → P (s.enterFallback .timeout)
  periodStart : ∀ s (n : Unit4), P s → s.held = false → s.pg[n].periodDue = true →
    P { s with pg := s.pg.set n s.pg[n].start }
  widthReached : ∀ s (n : Unit4), P s → s.held = false → s.pg[n].widthDue = true →
    P { s with pg := s.pg.set n { s.pg[n] with outActive := false } }
  cloneDone : ∀ s tag code, P s → s.held = false → s.banks.longOp = .cloning → s.mx.slot = .working tag code →
    P (s.cloneDone.finishLong tag code stOk [])
  armed : ∀ s g tag code, P s → s.held = false → s.banks.longOp = .validating g → s.mx.slot = .working tag code →
    validate s.banks.stagedBank = none → P ((s.armDone (some g)).finishLong tag code stOk [g])
  invalid : ∀ s g tag code i, P s → s.held = false → s.banks.longOp = .validating g →
    s.mx.slot = .working tag code → validate s.banks.stagedBank = some i →
    P ((s.armDone none).finishLong tag code stInvalid [i.table.code, BitVec.ofNat 8 i.row, i.reason.code])
  tick : ∀ s atSwitch, P s → s.held = false → P { s with
    sampler := s.sampler.advance s.divisor
    mc := { s.mc with timer := s.mc.timer.map (· - 1) }
    pg := Vector.ofFn fun n => s.pg[n].tick atSwitch }

/-- A request's command keeps what the arrival of its segment keeps. -/
theorem KeptByActions.withRequest {P : State → Prop} (k : KeptByActions P) {s : State} (hs : P s) (code : Byte)
    (rq : Request) : P (s.withRequest code rq (handleRequest code rq)) := by
  unfold State.withRequest
  refine keeps_onFrame (act := fun f s => ite _ _ _) hs fun f hf => ?_
  split
  · rename_i hd
    exact k.requestArrives s f code rq hs hf hd
  · exact hs

/-- Every command keeps what its actions keep: it acts when it is due, and otherwise changes nothing (entry 1). -/
theorem KeptByActions.exec {P : State → Prop} (k : KeptByActions P) (c : Instr) (s t : State) (hs : P s)
    (he : Machine.exec c s = .next t) : P t := by
  have requested : ∀ {code rq}, anyRequest c = some (code, rq) → P t := fun ha => by
    rw [exec_anyRequest ha] at he
    obtain rfl := Host.Outcome.next.inj he
    exact k.withRequest hs _ _
  cases c with
  | identify | readStatus | readOwners | openView | readRows | writeRows | clone | arm | disarm | forcePin
  | releasePin | enterFallback | resume | releaseAddress | restart | clearStats | clearCause => exact requested rfl
  | badOpcode code rq =>
    by_cases hk : knownCodes.contains code
    · obtain rfl := Host.Outcome.next.inj he
      rwa [if_pos hk]
    · exact requested (if_neg hk)
  | powerReset | pinReset =>
    obtain rfl := Host.Outcome.next.inj he
    exact k.beginReset _ _ _ hs
  | softReset =>
    obtain rfl := Host.Outcome.next.inj he
    exact iteInduction (fun _ => k.beginReset _ _ _ hs) fun _ => hs
  | endOfReset field =>
    obtain rfl := Host.Outcome.next.inj he
    refine iteInduction (fun hd => k.leaveReset _ _ hs ?_) fun _ => hs
    simp only [State.resetEndDue, Bool.and_eq_true] at hd
    exact hd.1.1
  | supplyGood =>
    obtain rfl := Host.Outcome.next.inj he
    exact iteInduction (fun hd => k.holdMoves _ _ hs (by simp [State.held, hd])) fun _ => hs
  | nrstRises =>
    obtain rfl := Host.Outcome.next.inj he
    exact iteInduction (fun hd => k.holdMoves _ _ hs (by simp [State.held, hd])) fun _ => hs
  | validSymbol sym =>
    obtain rfl := Host.Outcome.next.inj he
    exact iteInduction (fun _ => hs) fun hh => k.symbolArrives _ _ hs (by simpa using hh)
  | startDelimiter =>
    obtain rfl := Host.Outcome.next.inj he
    exact iteInduction (fun _ => hs) fun hh => k.symbolArrives _ .startDelimiter hs (by simpa using hh)
  | symbolError =>
    obtain rfl := Host.Outcome.next.inj he
    exact iteInduction (fun _ => hs) fun hh => k.errorArrives _ hs (by simpa using hh)
  | linkUp =>
    obtain rfl := Host.Outcome.next.inj he
    exact iteInduction (fun hd => k.linkRises _ hs hd) fun _ => hs
  | linkDownEvent =>
    obtain rfl := Host.Outcome.next.inj he
    exact iteInduction (fun hd => k.linkDown _ hs hd.1 hd.2) fun _ => hs
  | frameHeader rest =>
    obtain rfl := Host.Outcome.next.inj he
    exact keeps_onFrame (act := fun f s => ite _ _ _) hs fun f hf =>
      iteInduction (fun hd => k.headerArrives s f rest hs hf hd) fun _ => hs
  | addressField rest =>
    obtain rfl := Host.Outcome.next.inj he
    exact keeps_onFrame (act := fun f s => ite _ _ _) hs fun f hf =>
      iteInduction (fun hd => k.fieldArrives s f rest hs hf hd) fun _ => hs
  | badSegment rest =>
    obtain rfl := Host.Outcome.next.inj he
    exact keeps_onFrame (act := fun f s => ite _ _ _) hs fun f hf =>
      iteInduction (fun hd => k.badSegmentArrives s f rest hs hf hd) fun _ => hs
  | emptySegment body =>
    obtain rfl := Host.Outcome.next.inj he
    exact keeps_onFrame (act := fun f s => ite _ _ _) hs fun f hf =>
      iteInduction (fun hd => k.emptyArrives s f body hs hf hd) fun _ => hs
  | outCapture row =>
    obtain rfl := Host.Outcome.next.inj he
    refine iteInduction (fun _ => hs) fun hh => ?_
    split
    · exact hs
    · rename_i f hf
      split
      · exact hs
      · rename_i L hL
        exact iteInduction (fun hd => k.capture s f L row hs ⟨by simpa using hh, hf⟩ hL hd) fun _ => hs
  | inValueTaken row =>
    obtain rfl := Host.Outcome.next.inj he
    refine iteInduction (fun _ => hs) fun hh => ?_
    split
    · exact hs
    · rename_i f hf
      split
      · exact hs
      · rename_i L hL
        exact iteInduction (fun hd => k.takeValue s f L row hs ⟨by simpa using hh, hf⟩ hL hd) fun _ => hs
  | excessDataByte b =>
    obtain rfl := Host.Outcome.next.inj he
    exact keeps_onFrame (act := fun f s => ite _ _ _) hs fun f hf =>
      iteInduction (fun hd => k.excessByte s f b hs hf hd) fun _ => hs
  | frameEnd =>
    obtain rfl := Host.Outcome.next.inj he
    exact keeps_onFrame (act := fun f s => (s.validLink false).endFrame f) hs fun f hf => k.endFrame s f hs hf
  | frameAbort cause =>
    obtain rfl := Host.Outcome.next.inj he
    exact keeps_onFrame (act := fun f s => s.abortFor cause f) hs fun f hf => k.abortFor s f cause hs hf
  | delimiterLeavesOut =>
    obtain rfl := Host.Outcome.next.inj he
    refine iteInduction (fun _ => hs) fun hh => ?_
    split
    · exact hs
    · rename_i hd
      exact k.delimiterLeaves _ _ _ hs (by simpa using hh) hd
  | sample field =>
    obtain rfl := Host.Outcome.next.inj he
    exact iteInduction (fun hd => k.sample _ _ hs hd) fun _ => hs
  | frameWatchExpiry =>
    obtain rfl := Host.Outcome.next.inj he
    exact iteInduction (fun hd => k.expiry _ hs hd) fun _ => hs
  | periodStart n =>
    obtain rfl := Host.Outcome.next.inj he
    exact iteInduction (fun hd => k.periodStart _ _ hs hd.1 hd.2) fun _ => hs
  | widthReached n =>
    obtain rfl := Host.Outcome.next.inj he
    exact iteInduction (fun hd => k.widthReached _ _ hs hd.1 hd.2) fun _ => hs
  | cloneComplete =>
    obtain rfl := Host.Outcome.next.inj he
    refine iteInduction (fun _ => hs) fun hh => ?_
    split
    · rename_i hl hw
      exact k.cloneDone _ _ _ hs (by simpa using hh) hl hw
    · exact hs
  | validationComplete =>
    obtain rfl := Host.Outcome.next.inj he
    refine iteInduction (fun _ => hs) fun hh => ?_
    split
    · rename_i hl hw
      split
      · rename_i hv
        exact k.armed _ _ _ _ hs (by simpa using hh) hl hw hv
      · rename_i hv
        exact k.invalid _ _ _ _ _ hs (by simpa using hh) hl hw hv
    · exact hs
  | tickIncrement atSwitch =>
    obtain rfl := Host.Outcome.next.inj he
    exact iteInduction (fun _ => hs) fun hh => k.tick _ _ hs (by simpa using hh)

/-- A property that does not speak of the queue of commands and that the actions keep is kept by every step. -/
theorem KeptByActions.step {P : State → Prop} (k : KeptByActions P) (hq : ∀ s q, P s → P { s with pending := q }) :
    KeptByEveryStep P :=
  keptByEveryStep_of_exec hq k.exec

end Sys2Proof.Machine
end

section
/-! SUPPORT. The part of the node that its consistency speaks of, and the moves this part can make. -/

namespace Sys2Proof.Machine

/-- What Table 7-1 and the rules it gathers speak of. -/
structure Control where
  address : Byte
  mode : Mode
  timer : Option Nat
  banks : BankUnit
  slot : Slot
  force : Vector (Option ForceState) 24
  /-- The provisional address of the frame in passage. -/
  provisional : Option Byte

/-- The control part of a node. -/
def State.control (s : State) : Control where
  address := s.mc.address
  mode := s.mc.mode
  timer := s.mc.timer
  banks := s.banks
  slot := s.mx.slot
  force := s.pins.force
  provisional := s.fp.frame.bind Frame.provisional

/-- The consistency of a control part, clause by clause. -/
structure Control.Ok (c : Control) : Prop where
  address_zero : c.address = 0 ↔ c.mode = .unaddressed
  address_le : c.address.toNat ≤ 250
  provisional_ok : ∀ a, c.provisional = some a → c.mode = .unaddressed ∧ a ≠ 0 ∧ a.toNat ≤ 250
  gen_zero : c.banks.gen = 0 ↔ c.mode = .unaddressed ∨ c.mode = .standby
  zero_active : c.banks.gen = 0 → c.banks.activeBank = Bank.zero
  active_valid : c.banks.gen ≠ 0 → validate c.banks.activeBank = none
  armed_ok : ∀ g, c.banks.armed = some g →
    g ≠ 0 ∧ g ≠ c.banks.gen ∧ c.banks.longOp = .idle ∧ validate c.banks.stagedBank = none
  candidate_ok : ∀ g, c.banks.longOp = .validating g → g ≠ 0 ∧ g ≠ c.banks.gen
  timer_running : c.timer.isSome = true ↔ c.mode = .running
  working_long : c.banks.longOp ≠ .idle ↔ ∃ tag code, c.slot = .working tag code
  unaddressed_bare : c.mode = .unaddressed →
    c.slot = .idle ∧ c.banks.armed = none ∧ ∀ n : Pin, c.force[n] = none
  force_permitted : c.mode = .running ∨ c.mode = .fallback → c.banks.activeBank.policy.permit = false →
    ∀ n : Pin, c.force[n] = none

/-- The consistency of a node is that of its control part. -/
theorem State.consistent_iff (s : State) : s.Consistent ↔ s.control.Ok := by
  constructor
  · rintro ⟨⟨h1, h2, h3⟩, ⟨h4, h5, h6, h7, h8⟩, h9, h10, h11, h12⟩
    refine ⟨h1, h2, fun a ha => ?_, h4, h5, h6, h7, h8, h9, h10, h11, h12⟩
    obtain ⟨f, hf, ha⟩ := Option.bind_eq_some_iff.1 ha
    exact h3 f a hf ha
  · rintro ⟨h1, h2, h3, h4, h5, h6, h7, h8, h9, h10, h11, h12⟩
    exact ⟨⟨h1, h2, fun f a hf ha => h3 a (Option.bind_eq_some_iff.2 ⟨f, hf, ha⟩)⟩, ⟨h4, h5, h6, h7, h8⟩,
      h9, h10, h11, h12⟩

/-! ### The moves -/

namespace Control.Ok

variable {c : Control}

theorem no_provisional (h : c.Ok) (hm : c.mode ≠ .unaddressed) : c.provisional = none := by
  cases hp : c.provisional with
  | none => rfl
  | some a => exact absurd (h.provisional_ok a hp).1 hm

theorem mode_of_address (h : c.Ok) (ha : c.address ≠ 0) : c.mode ≠ .unaddressed :=
  fun hm => ha (h.address_zero.2 hm)

theorem address_of_mode (h : c.Ok) (hm : c.mode ≠ .unaddressed) : c.address ≠ 0 :=
  fun ha => hm (h.address_zero.1 ha)

/-- R4: A is not 0 in RUNNING and FALLBACK. -/
theorem gen_ne_zero (h : c.Ok) (hm : c.mode = .running ∨ c.mode = .fallback) : c.banks.gen ≠ 0 := fun hg => by
  rcases hm with hm | hm <;> simpa [hm] using h.gen_zero.1 hg

theorem timer_stopped (h : c.Ok) (hm : c.mode ≠ .running) : c.timer.isSome ≠ true :=
  fun ht => hm (h.timer_running.1 ht)

theorem not_armed (h : c.Ok) (hl : c.banks.longOp ≠ .idle) : c.banks.armed = none := by
  cases ha : c.banks.armed with
  | none => rfl
  | some g => exact absurd (h.armed_ok g ha).2.2.1 hl

theorem not_bare (h : c.Ok) (hs : c.slot ≠ .idle) : c.mode ≠ .unaddressed :=
  fun hm => hs (h.unaddressed_bare hm).1

/-- The frame in passage leaves, or another one is opened. -/
theorem frameGone (h : c.Ok) : Ok { c with provisional := none } :=
  { h with provisional_ok := fun _ ha => nomatch ha }

/-- R133. -/
theorem provisionalTaken (h : c.Ok) (hm : c.mode = .unaddressed) {a : Byte} (ha : a ≠ 0) (hl : a.toNat ≤ 250) :
    Ok { c with provisional := some a } :=
  { h with provisional_ok := fun _ hb => Option.some.inj hb ▸ ⟨hm, ha, hl⟩ }

/-- R134. -/
theorem addressTaken (h : c.Ok) {a : Byte} (hp : c.provisional = some a) :
    Ok { c with address := a, mode := .standby, provisional := none } := by
  obtain ⟨hm, ha, hl⟩ := h.provisional_ok a hp
  exact { h with
    address_zero := iff_of_false ha nofun
    address_le := hl
    provisional_ok := nofun
    gen_zero := iff_of_true (h.gen_zero.2 (.inl hm)) (.inr rfl)
    timer_running := iff_of_false (h.timer_stopped (by simp [hm])) nofun
    unaddressed_bare := nofun
    force_permitted := by simp }

/-- R144. -/
theorem addressReleased (h : c.Ok) (hm : c.mode = .standby) (hs : c.slot = .idle) :
    Ok { c with
      address := 0, mode := .unaddressed, banks := { c.banks with armed := none }
      force := Vector.replicate 24 none } :=
  { h with
    address_zero := iff_of_true rfl rfl
    address_le := Nat.zero_le _
    provisional_ok := by simp [h.no_provisional (by simp [hm])]
    gen_zero := iff_of_true (h.gen_zero.2 (.inr hm)) (.inl rfl)
    armed_ok := nofun
    timer_running := iff_of_false (h.timer_stopped (by simp [hm])) nofun
    unaddressed_bare := by simp [hs]
    force_permitted := by simp }

/-- R140. -/
theorem fallbackEntered (h : c.Ok) (hm : c.mode = .running) : Ok { c with mode := .fallback, timer := none } :=
  { h with
    address_zero := iff_of_false (h.address_of_mode (by simp [hm])) nofun
    provisional_ok := by simp [h.no_provisional (by simp [hm])]
    gen_zero := iff_of_false (h.gen_ne_zero (.inl hm)) (by simp)
    timer_running := iff_of_false nofun nofun
    unaddressed_bare := nofun
    force_permitted := fun _ => h.force_permitted (.inl hm) }

/-- R142. -/
theorem fallbackLeft (h : c.Ok) (hm : c.mode = .fallback) (n : Nat) : Ok { c with mode := .running, timer := some n } :=
  { h with
    address_zero := iff_of_false (h.address_of_mode (by simp [hm])) nofun
    provisional_ok := by simp [h.no_provisional (by simp [hm])]
    gen_zero := iff_of_false (h.gen_ne_zero (.inr hm)) (by simp)
    timer_running := iff_of_true rfl rfl
    unaddressed_bare := nofun
    force_permitted := fun _ => h.force_permitted (.inr hm) }

/-- R137: the timer runs on or is restarted. -/
theorem timed (h : c.Ok) {timer : Option Nat} (ht : timer.isSome = c.timer.isSome) : Ok { c with timer := timer } :=
  { h with timer_running := by rw [← h.timer_running, ht] }

/-- R5. -/
theorem disarmed (h : c.Ok) : Ok { c with banks := { c.banks with armed := none } } :=
  { h with
    armed_ok := fun _ ha => nomatch ha
    unaddressed_bare := fun hm => ⟨(h.unaddressed_bare hm).1, rfl, (h.unaddressed_bare hm).2.2⟩ }

/-- R11: the armed bank has passed validation; the force records stay under permit YES only. -/
theorem switched (h : c.Ok) {g : Byte} (hg : c.banks.armed = some g) (n : Nat) :
    Ok { c with
      banks := { c.banks with active := c.banks.active.other, gen := g, armed := none }
      mode := if c.mode = .standby then .running else c.mode
      timer := if c.mode = .standby then some n else c.timer
      force := if c.banks.stagedBank.policy.permit then c.force else Vector.replicate 24 none } := by
  obtain ⟨hg0, -, hl, hv⟩ := h.armed_ok g hg
  have hm : c.mode ≠ .unaddressed := fun hm => by simp [(h.unaddressed_bare hm).2.1] at hg
  have hmode : (if c.mode = .standby then Mode.running else c.mode) ≠ .unaddressed := by
    split <;> simp [hm]
  have hmode' : (if c.mode = .standby then Mode.running else c.mode) ≠ .standby := by
    split <;> simp [*]
  exact { h with
    address_zero := iff_of_false (h.address_of_mode hm) hmode
    provisional_ok := by simp [h.no_provisional hm]
    gen_zero := iff_of_false hg0 (not_or.2 ⟨hmode, hmode'⟩)
    zero_active := fun hz => absurd hz hg0
    active_valid := fun _ => hv
    armed_ok := nofun
    candidate_ok := fun _ ha => nomatch hl.symm.trans ha
    timer_running := by
      split
      · simp
      · exact h.timer_running
    unaddressed_bare := fun hu => absurd hu hmode
    force_permitted := fun _ (hp : c.banks.stagedBank.policy.permit = false) k => by simp [hp] }

/-- R1: the STAGED bank is written while nothing is armed. -/
theorem stagedWritten (h : c.Ok) {u : BankUnit} (hb : u.activeBank = c.banks.activeBank) (hg : u.gen = c.banks.gen)
    (hl : u.longOp = c.banks.longOp) (hn : u.armed = none) : Ok { c with banks := u } :=
  { h with
    gen_zero := by rw [← h.gen_zero, hg]
    zero_active := by rw [hg, hb]; exact h.zero_active
    active_valid := by rw [hg, hb]; exact h.active_valid
    armed_ok := by simp [hn]
    candidate_ok := by rw [hg, hl]; exact h.candidate_ok
    working_long := by rw [← h.working_long, hl]
    unaddressed_bare := fun hu => ⟨(h.unaddressed_bare hu).1, hn, (h.unaddressed_bare hu).2.2⟩
    force_permitted := by rw [hb]; exact h.force_permitted }

/-- R17, R19: a long operation starts at a node with an address, whose slot was IDLE. -/
theorem longStarted (h : c.Ok) (hm : c.mode ≠ .unaddressed) {op : LongOp} (ho : op ≠ .idle)
    (hg : ∀ g, op = .validating g → g ≠ 0 ∧ g ≠ c.banks.gen) (tag code : Byte) :
    Ok { c with banks := { c.banks with armed := none, longOp := op }, slot := .working tag code } :=
  { h with
    armed_ok := nofun
    candidate_ok := hg
    working_long := iff_of_true ho ⟨tag, code, rfl⟩
    unaddressed_bare := fun hu => absurd hu hm }

/-- R160: a long operation ends; S is then the candidate of a validation that the STAGED bank has passed, or none. -/
theorem longDone (h : c.Ok) (hl : c.banks.longOp ≠ .idle) {armed : Option Byte}
    (ha : ∀ g, armed = some g → c.banks.longOp = .validating g ∧ validate c.banks.stagedBank = none) (r : Response) :
    Ok { c with banks := { c.banks with armed := armed, longOp := .idle }, slot := .answering r } := by
  obtain ⟨tag, code, hs⟩ := h.working_long.1 hl
  exact { h with
    armed_ok := fun g hg => by
      obtain ⟨hv, hok⟩ := ha g hg
      exact ⟨(h.candidate_ok g hv).1, (h.candidate_ok g hv).2, rfl, hok⟩
    candidate_ok := nofun
    working_long := iff_of_false (by simp) (by simp)
    unaddressed_bare := fun hu => absurd hu (h.not_bare (by simp [hs])) }

/-- R158, R159: a pending result leaves the slot. -/
theorem resultLeft (h : c.Ok) {r : Response} (hs : c.slot = .answering r) : Ok { c with slot := .idle } :=
  { h with
    working_long := by
      rw [h.working_long, hs]
      simp
    unaddressed_bare := fun hu => ⟨rfl, (h.unaddressed_bare hu).2⟩ }

/-- R63: a force record is set in STANDBY, or under permit YES. -/
theorem forced (h : c.Ok) (hm : c.mode ≠ .unaddressed)
    (hp : c.mode = .standby ∨ c.banks.activeBank.policy.permit = true) (v : Vector (Option ForceState) 24) :
    Ok { c with force := v } :=
  { h with
    unaddressed_bare := fun hu => absurd hu hm
    force_permitted := fun hrun hno => by
      rcases hp with hp | hp
      · simp [show c.mode = .standby from hp] at hrun
      · simp [show c.banks.activeBank.policy.permit = false from hno] at hp }

/-- R64: force records are removed. -/
theorem released (h : c.Ok) {v : Vector (Option ForceState) 24}
    (hv : ∀ n : Pin, c.force[n] = none → v[n] = none) : Ok { c with force := v } :=
  { h with
    unaddressed_bare := fun hu =>
      ⟨(h.unaddressed_bare hu).1, (h.unaddressed_bare hu).2.1, fun n => hv n ((h.unaddressed_bare hu).2.2 n)⟩
    force_permitted := fun hrun hno n => hv n (h.force_permitted hrun hno n) }

end Control.Ok

end Sys2Proof.Machine
end

section
/-! SUPPORT. What each operation of the node does to its control part. -/

namespace Sys2Proof.Machine

/-! ### Operations that leave the control part alone, but for the provisional address of the frame in passage -/

@[simp] theorem State.control_emptyPending (s : State) : s.emptyPending.control = s.control := rfl
@[simp] theorem State.control_redecide (s : State) : s.redecide.control = s.control := by
  dsimp only [State.control, State.redecide, State.redecideWith]

@[simp] theorem State.control_passSymbols (f : Frame) (arr : List Sym) (out : List OutSym) (s : State) :
    (s.passSymbols f arr out).control = { s.control with provisional := f.provisional } := rfl

@[simp] theorem State.control_passSegment (f : Frame) (arr : List Sym) (out : List OutSym) (s : State) :
    (s.passSegment f arr out).control = { s.control with provisional := f.provisional } := rfl

@[simp] theorem State.control_poisonIfExcess (f : Frame) (s : State) : (s.poisonIfExcess f).control = s.control := by
  unfold State.poisonIfExcess
  split
  · split <;> rfl
  · rfl

@[simp] theorem State.control_tooLong (f : Frame) (s : State) :
    (s.tooLong f).control = { s.control with provisional := none } :=
  show { (s.poisonIfExcess f).control with provisional := none } = _ by rw [State.control_poisonIfExcess]

@[simp] theorem State.control_bindFrame (L : Nat) (f : Frame) (s : State) :
    (s.bindFrame L f).control = { s.control with provisional := f.provisional } := by
  simp only [State.bindFrame]
  split <;> split <;> rfl

@[simp] theorem State.control_enterOutputs (o : StrobeSet) (s : State) : (enterOutputs o s).control = s.control := by
  rw [enterOutputs_frame]
  rfl

@[simp] theorem State.control_fillStrobe (o : StrobeSet) (s : State) : (fillStrobe o s).control = s.control := by
  unfold fillStrobe
  split <;> rfl

@[simp] theorem State.control_takeToggles (v : Vector (Option Byte) 4) (s : State) :
    (takeToggles v s).control = s.control := rfl

@[simp] theorem State.control_takeAck (a : Option Half) (s : State) : (takeAck a s).control = s.control := by
  cases a <;> rfl

@[simp] theorem State.control_strobeHeader (h : Header) (s : State) : (s.strobeHeader h).control = s.control := by
  unfold State.strobeHeader State.applyStrobe
  split
  · split
    · rfl
    · rename_i o _
      exact State.control_enterOutputs o s
  · rfl

@[simp] theorem State.control_capture (f : Frame) (r : Row) (s : State) : (s.capture f r).control = s.control := by
  unfold State.capture
  split <;> rfl

@[simp] theorem State.control_takeSample (raw : PinWord) (s : State) : (s.takeSample raw).control = s.control := by
  unfold State.takeSample
  rw [foldl_deliverEdge_frame fun n => raw.getLsbD n.val]
  rfl

/-- The provisional address of the control part is that of the frame in passage. -/
theorem State.control_of_frame {f : Frame} {s : State} (hf : s.fp.frame = some f) :
    { s.control with provisional := f.provisional } = s.control := by
  simp [State.control, hf]

/-! ### Operations that move it -/

theorem State.control_enterFallback (c : Cause) (s : State) :
    (s.enterFallback c).control = { s.control with mode := .fallback, timer := none } := by
  dsimp only [State.control, State.enterFallback, State.redecide, State.redecideWith]

theorem State.control_leaveFallback (s : State) :
    s.leaveFallback.control =
      { s.control with mode := .running, timer := some (s.policy.timeout * Config.timeoutUnit) } := by
  rw [State.leaveFallback_eq, State.control_redecide]
  rfl

theorem State.control_switchTo (g : Byte) (s : State) :
    (s.switchTo g).control = { s.control with
      banks := { s.banks with active := s.banks.active.other, gen := g, armed := none }
      mode := if s.mc.mode = .standby then .running else s.mc.mode
      timer := if s.mc.mode = .standby then some (s.banks.stagedBank.policy.timeout * Config.timeoutUnit)
        else s.mc.timer
      force := if s.banks.stagedBank.policy.permit then s.pins.force else Vector.replicate 24 none } := by
  rw [State.switchTo_eq]
  simp only [State.control, State.redecideWith, State.switched, switchMode]
  split <;> rfl

/-! ### Moves of the node keep the consistency -/

theorem State.switchTo_ok {s : State} {g : Byte} (h : s.control.Ok) (hg : s.banks.armed = some g) :
    (s.switchTo g).control.Ok :=
  State.control_switchTo g s ▸ h.switched hg _

theorem State.enterFallback_ok {s : State} (h : s.control.Ok) (hm : s.mc.mode = .running) (c : Cause) :
    (s.enterFallback c).control.Ok :=
  State.control_enterFallback c s ▸ h.fallbackEntered hm

theorem State.leaveFallback_ok {s : State} (h : s.control.Ok) (hm : s.mc.mode = .fallback) :
    s.leaveFallback.control.Ok :=
  State.control_leaveFallback s ▸ h.fallbackLeft hm _

theorem State.startTimer_ok {s : State} (h : s.control.Ok) (hm : s.mc.mode = .running) : s.startTimer.control.Ok :=
  h.timed (timer := some _) (h.timer_running.2 hm).symm

/-! ### The symbols of a frame in passage -/

section
variable {f : Frame} {s : State}

theorem State.frameSymbol_ok (h : s.control.Ok) (hf : s.fp.frame = some f) (x : Sym) :
    (s.frameSymbol f x).control.Ok := by
  unfold State.frameSymbol
  split
  · exact State.control_tooLong f _ ▸ h.frameGone
  · simpa [State.control_of_frame hf] using h

/-- Table 1-8: a switch is decided for the armed generation. -/
theorem decideGeneration_switch {u : BankUnit} {g : Byte} (h : decideGeneration u g = .switch) : u.armed = some g := by
  unfold decideGeneration at h
  split at h
  · exact nomatch h
  split at h
  next ha => exact ha
  split at h <;> exact nomatch h

theorem State.processHeader_ok (h : s.control.Ok) (hf : s.control.provisional = f.provisional) (hd : Header) :
    (s.processHeader hd f).control.Ok := by
  have framed : Control.Ok { s.control with provisional := f.provisional } := hf ▸ h
  unfold State.processHeader
  split
  · exact framed
  · split
    · exact framed
    · rename_i hs
      have switched := State.switchTo_ok h (decideGeneration_switch hs)
      rw [State.control_bindFrame]
      exact (show (s.switchTo hd.gen).control.provisional = f.provisional from hf) ▸ switched
    · rwa [State.control_bindFrame]
    · exact framed

theorem State.handOn_ok (h : s.control.Ok) (hf : s.control.provisional = f.provisional) (hd : Header) :
    (s.handOn hd f).control.Ok := by
  have framed : Control.Ok { s.control with provisional := f.provisional } := hf ▸ h
  unfold State.handOn
  split
  · exact State.processHeader_ok h hf hd
  · rwa [State.control_strobeHeader]
  · exact framed

theorem State.headerArrives_ok (h : s.control.Ok) (hf : s.fp.frame = some f) (rest : List Sym) :
    (s.headerArrives f rest).control.Ok := by
  have hp : s.control.provisional = f.provisional := by simp [State.control, hf]
  unfold State.headerArrives
  split
  · rw [State.badHeader, State.control_passSymbols]
    exact hp ▸ h
  · unfold State.goodHeader
    exact State.handOn_ok (by exact h) (by exact hp) _

/-- R133: the provisional address that a field gives. -/
theorem provisionalOf_eq_some {n : Half} {a : Byte} (h : provisionalOf n = some a) : a ≠ 0 ∧ a.toNat ≤ 250 := by
  unfold provisionalOf Config.maxAddress at h
  split at h
  case isFalse => exact nomatch h
  rename_i hn
  obtain rfl := Option.some.inj h
  have ha : (n.extractLsb' 0 8).toNat = n.toNat := by
    rw [BitVec.extractLsb'_toNat, Nat.shiftRight_zero]
    omega
  refine ⟨fun hz => ?_, by omega⟩
  rw [hz] at ha
  simp at ha
  omega

theorem State.fieldArrives_ok (h : s.control.Ok) (hf : s.fp.frame = some f) (rest : List Sym) :
    (s.fieldArrives f rest).control.Ok := by
  unfold State.fieldArrives
  dsimp only
  split
  · rename_i hc
    obtain ⟨hm, hn⟩ := hc
    obtain ⟨a, ha⟩ := Option.isSome_iff_exists.1 hn
    rw [State.control_passSymbols, ha]
    exact h.provisionalTaken hm (provisionalOf_eq_some ha).1 (provisionalOf_eq_some ha).2
  · rwa [State.control_passSymbols, State.control_of_frame hf]

/-! ### Segments -/

theorem State.passSegment_ok (h : s.control.Ok) (hf : s.fp.frame = some f) (arr : List Sym) (out : List OutSym) :
    (s.passSegment f arr out).control.Ok := by
  rwa [State.control_passSegment, State.control_of_frame hf]

theorem State.badSegmentArrives_ok (h : s.control.Ok) (hf : s.fp.frame = some f) (rest : List Sym) :
    (s.badSegmentArrives f rest).control.Ok := by
  unfold State.badSegmentArrives
  rw [State.control_passSymbols]
  split
  · exact State.control_of_frame hf ▸ h
  · exact State.control_of_frame hf ▸ h

theorem State.emptyArrives_ok (h : s.control.Ok) (hf : s.fp.frame = some f) (bytes : List Byte) :
    (s.emptyArrives f bytes).control.Ok := by
  unfold State.emptyArrives
  split
  · rename_i r hs
    split
    · exact State.passSegment_ok (s := s.setSlot .idle) (h.resultLeft hs) hf _ _
    · exact State.passSegment_ok h hf _ _
  · exact State.passSegment_ok h hf _ _

end

end Sys2Proof.Machine
end

section
/-! SUPPORT. Requests, frame ends and the commands keep the consistency of the control part. -/

namespace Sys2Proof.Machine

/-! ### Requests -/

/-- A request without payload keeps the consistency when its execution does. -/
theorem noPayload_ok {rq : Request} {perform : State → Answer × State} {s : State} (h : s.control.Ok)
    (hp : (perform s).2.control.Ok) : (noPayload rq perform s).2.control.Ok := by
  unfold noPayload
  split
  · exact h
  · exact hp

/-- Each of the fourteen executions keeps the consistency of a node that has an address and an IDLE slot. -/
theorem Execution.ok {rq : Request} {perform : State → Answer × State} (hx : Execution rq perform) {s : State}
    (h : s.control.Ok) (ha : s.mc.address ≠ 0) (hs : s.mx.slot = .idle) : (perform s).2.control.Ok := by
  have hm : s.mc.mode ≠ .unaddressed := h.mode_of_address ha
  cases hx with
  | openView =>
    unfold Machine.openView
    repeat' split
    all_goals exact h
  | readRows =>
    unfold Machine.readRows
    dsimp only
    repeat' split
    all_goals exact h
  | writeRows =>
    unfold Machine.writeRows
    dsimp only
    iterate 3
      split
      · exact h
    exact h.stagedWritten (u := { s.banks.setStaged _ with armed := none })
      (BankUnit.activeBank_setStaged _ _) (BankUnit.gen_setStaged _ _) (BankUnit.longOp_setStaged _ _) rfl
  | clone => exact noPayload_ok h (h.longStarted hm (by simp) (by simp) _ _)
  | arm =>
    unfold armRequest
    dsimp only
    split
    · exact h
    split
    · exact h
    next hg =>
      obtain ⟨hg0, hga⟩ := not_or.1 hg
      refine h.longStarted hm (by simp) (fun g hv => ?_) _ _
      obtain rfl := LongOp.validating.inj hv
      exact ⟨hg0, hga⟩
  | disarm => exact noPayload_ok h h.disarmed
  | forcePin =>
    unfold Machine.forcePin
    repeat' split
    case h_2.isTrue hp =>
      rw [State.control_redecide]
      exact h.forced hm hp _
    all_goals exact h
  | releasePin =>
    unfold Machine.releasePin State.releaseAll
    split
    · exact h
    split
    · rw [State.control_redecide]
      exact h.released (v := Vector.replicate 24 none) (by simp)
    split
    case isFalse => exact h
    · rw [State.control_redecide]
      refine h.released fun n hn => ?_
      rw [Fin.getElem_fin, Vector.getElem_set]
      split
      · rfl
      · exact hn
  | enterFallback =>
    refine noPayload_ok h ?_
    unfold enterFallbackRequest
    split
    next hr => exact State.enterFallback_ok h hr _
    · split <;> exact h
  | resume =>
    refine noPayload_ok h ?_
    unfold resumeRequest
    split
    next hf => exact State.leaveFallback_ok h hf
    · exact h
  | releaseAddress =>
    refine noPayload_ok h ?_
    unfold Machine.releaseAddress State.releaseAll
    split
    next hst =>
      rw [State.control_redecide]
      exact h.addressReleased hst hs
    · exact h
  | restart => exact noPayload_ok h h
  | clearStats => exact noPayload_ok h h
  | clearCause => exact noPayload_ok h h

section
variable {f : Frame} {s : State}

/-- The handling of a request at a node with an address keeps the consistency. -/
theorem handleRequest_ok (h : s.control.Ok) (ha : s.mc.address ≠ 0) (code : Byte) (rq : Request) :
    (handleRequest code rq s).2.control.Ok :=
  (handleRequest_handles code rq).keeps (P := fun t => t.control.Ok) h (fun _ _ hu => hu)
    (fun _ _ hu hr => hu.resultLeft hr) (fun _ _ hu => hu)
    (fun _ hx hslot => hx.ok (s := s.countConsumed) h ha hslot)

theorem State.requestArrives_ok (h : s.control.Ok) (hf : s.fp.frame = some f) (bytes : List Byte) (code : Byte)
    (rq : Request) : (s.requestArrives f bytes rq (handleRequest code rq)).control.Ok := by
  unfold State.requestArrives
  split
  · rename_i hd
    have ha : s.mc.address ≠ 0 := by
      have := hd.1
      simp only [State.handsOver, Bool.and_eq_true, bne_iff_ne] at this
      exact this.2
    have ht := handleRequest_ok h ha code rq
    have hk := (handleRequest_requestKeeps code rq s).fp
    split
    all_goals
      rename_i hr
      rw [hr] at ht hk
      exact State.passSegment_ok ht (hk ▸ hf) _ _
  · exact State.passSegment_ok h hf _ _

theorem State.segmentArrives_ok (h : s.control.Ok) (hf : s.fp.frame = some f) (rest : List Sym) :
    (s.segmentArrives f rest).control.Ok := by
  unfold State.segmentArrives
  dsimp only
  split
  · exact State.badSegmentArrives_ok h hf _
  split
  · exact State.emptyArrives_ok h hf _
  split
  · exact State.requestArrives_ok h hf _ _ _
  · exact State.passSegment_ok h hf _ _

/-! ### Frame ends -/

theorem applyFrame_ok (h : s.control.Ok) (policy : Row) : (applyFrame policy s).control.Ok := by
  have applied : ∀ t : State, t.control.Ok → (goodFrameAtMode policy t).control.Ok := by
    intro t ht
    unfold goodFrameAtMode
    split
    next hr => exact State.startTimer_ok ht hr
    split
    next hf => exact State.leaveFallback_ok ht hf.1
    · exact ht
  refine applied _ ?_
  simp only [State.control_takeAck, State.control_takeToggles]
  split
  · rwa [State.control_fillStrobe]
  · rwa [State.control_enterOutputs]

theorem deliverVerdict_ok (h : s.control.Ok) (hf : s.fp.frame = some f) {u : State}
    (hu : u.control = { s.control with provisional := none }) (t : FrameType) (good : Bool) :
    (deliverVerdict f t good u).control.Ok := by
  have hok : u.control.Ok := hu ▸ h.frameGone
  cases t with
  | process =>
    rw [deliverVerdict, State.control_emptyPending]
    split
    · exact applyFrame_ok hok _
    · exact hok
  | strobe => exact hok
  | address =>
    cases good with
    | false => exact hok
    | true =>
      cases ha : f.provisional with
      | none => simpa [deliverVerdict, takeAddress, ha] using hok
      | some a =>
        have taken : (deliverVerdict f .address true u).control =
            { u.control with address := a, mode := .standby } := by
          simp only [deliverVerdict, if_true, ha]
          rfl
        rw [taken, hu]
        exact h.addressTaken (by simpa [State.control, hf] using ha)

theorem State.endFrame_ok (h : s.control.Ok) (hf : s.fp.frame = some f) : (s.endFrame f).control.Ok := by
  unfold State.endFrame
  split
  · exact h.frameGone
  · exact h.frameGone
  · exact deliverVerdict_ok h hf rfl _ _

/-! ### The symbols of the IN link -/

theorem State.symbolInFrame_ok (h : s.control.Ok) (hf : s.fp.frame = some f) (x : Sym) :
    (s.symbolInFrame f x).control.Ok := by
  unfold State.symbolInFrame
  split
  · exact State.headerArrives_ok h hf _
  split
  · exact State.fieldArrives_ok h hf _
  split
  · exact State.segmentArrives_ok h hf _
  · exact State.frameSymbol_ok h hf x

theorem State.startArrives_ok (h : s.control.Ok) : s.startArrives.control.Ok := by
  unfold State.startArrives
  dsimp only
  split
  · split
    · exact h
    · split
      · exact h.frameGone
      · exact h.frameGone
  · exact h

theorem State.idleArrives_ok (h : s.control.Ok) (mark : Option Byte) (out : OutSym) :
    (s.idleArrives mark out).control.Ok := by
  unfold State.idleArrives
  dsimp only
  split
  · split
    · rename_i f hf
      exact State.symbolInFrame_ok (s := s.validLink true) h hf _
    · exact h
  · exact h

theorem State.symbolArrives_ok (h : s.control.Ok) (sym : Symbol) : (s.symbolArrives sym).control.Ok := by
  cases sym with
  | startDelimiter => exact State.startArrives_ok h
  | plainIdle => exact State.idleArrives_ok h _ _
  | breakIdle a => exact State.idleArrives_ok h _ _
  | data b =>
    simp only [State.symbolArrives, State.dataArrives]
    split
    · split
      · rename_i f hf
        exact State.symbolInFrame_ok (s := s.validLink false) h hf _
      · exact h
    · exact h
  | endDelimiter =>
    simp only [State.symbolArrives, State.endArrives]
    split
    · split
      · rename_i f hf
        exact State.endFrame_ok (s := s.validLink false) h hf
      · exact h
    · exact h
  | abortDelimiter =>
    simp only [State.symbolArrives, State.abortArrives]
    split
    · split
      · exact h.frameGone
      · exact h
    · exact h

theorem State.errorArrives_ok (h : s.control.Ok) : s.errorArrives.control.Ok := by
  unfold State.errorArrives
  dsimp only
  split
  · exact h
  · exact h
  · split
    · rename_i f hf
      exact State.symbolInFrame_ok h hf _
    · exact h

theorem State.abortAtLinkDown_ok (h : s.control.Ok) : s.abortAtLinkDown.control.Ok := by
  unfold State.abortAtLinkDown
  split
  · exact h
  · exact h.frameGone

theorem State.linkDown_ok (h : s.control.Ok) : s.linkDown.control.Ok := by
  have ht := State.abortAtLinkDown_ok h
  unfold State.linkDown State.linkLost
  dsimp only
  split
  · rename_i hm
    exact State.enterFallback_ok (by exact ht) hm _
  · exact ht

theorem State.abortFor_ok (h : s.control.Ok) (cause : AbortCause) : (s.abortFor cause f).control.Ok := by
  cases cause with
  | linkDown => exact State.abortAtLinkDown_ok h
  | abortDelimiter => exact h.frameGone
  | startDelimiter => exact h.frameGone
  | tooLong =>
    simp only [State.abortFor]
    split
    · rw [State.control_tooLong]
      exact h.frameGone
    · exact h

theorem State.takeValue_ok (h : s.control.Ok) (hf : s.fp.frame = some f) (r : Row) :
    (s.takeValue f r).control.Ok := by
  unfold State.takeValue
  split
  · exact h
  · show Control.Ok { s.control with provisional := f.provisional }
    rwa [State.control_of_frame hf]

end

/-! ### Resets, the timer and the long operations -/

/-- R138: the frame watch timer expires in RUNNING only. -/
theorem State.running_of_expiryDue {s : State} (h : s.expiryDue = true) : s.mc.mode = .running := by
  simp only [State.expiryDue, Bool.and_eq_true, beq_iff_eq] at h
  exact h.1.2

theorem State.beginReset_ok (cause : ResetCause) (hold : ResetHold) (s : State) :
    (s.beginReset cause hold).control.Ok where
  address_zero := iff_of_true rfl rfl
  address_le := Nat.zero_le _
  provisional_ok := nofun
  gen_zero := iff_of_true rfl (.inl rfl)
  zero_active := fun _ => rfl
  active_valid := fun h => absurd rfl h
  armed_ok := nofun
  candidate_ok := nofun
  timer_running := iff_of_false nofun nofun
  working_long := iff_of_false (fun h => h rfl) (fun ⟨_, _, h⟩ => nomatch h)
  unaddressed_bare := fun _ =>
    ⟨rfl, rfl, fun n => by simp [State.control, State.beginReset, State.reset, PinResolver.reset]⟩
  force_permitted := fun h => by simp [State.control, State.beginReset, ModeController.reset] at h

theorem State.cloneDone_ok {s : State} (h : s.control.Ok) (hl : s.banks.longOp = .cloning) (tag code st : Byte)
    (p : List Byte) : (s.cloneDone.finishLong tag code st p).control.Ok := by
  have ha : (s.banks.setStaged s.banks.activeBank).armed = none :=
    (BankUnit.armed_setStaged _ _).trans (h.not_armed (by simp [State.control, hl]))
  have hw := h.stagedWritten (u := s.banks.setStaged s.banks.activeBank)
    (BankUnit.activeBank_setStaged _ _) (BankUnit.gen_setStaged _ _) (BankUnit.longOp_setStaged _ _) ha
  exact hw.longDone (by simp [hl]) (armed := (s.banks.setStaged s.banks.activeBank).armed)
    (fun _ hg => nomatch ha.symm.trans hg) _

theorem State.armDone_ok {s : State} (h : s.control.Ok) {g : Byte} (hl : s.banks.longOp = .validating g)
    {armed : Option Byte} (ha : ∀ a, armed = some a → a = g ∧ validate s.banks.stagedBank = none)
    (tag code st : Byte) (p : List Byte) : ((s.armDone armed).finishLong tag code st p).control.Ok := by
  refine h.longDone (by simp [State.control, hl]) (fun a h' => ?_) _
  obtain ⟨rfl, hv⟩ := ha a h'
  exact ⟨hl, hv⟩

/-! ### The commands -/

/-- A frame end that leaves OUT moves only the count of RESTART in the Mode Controller. -/
theorem State.control_frameLeft (l : LinkInterface) (x : OutSym) (s : State) :
    State.control { s with link := l, mc := s.mc.frameLeft x } = s.control := by
  simp only [State.control, ModeController.frameLeft]
  split <;> rfl

/-- Whatever a command does keeps the consistency of the control part. -/
theorem control_keptByActions : KeptByActions fun s => s.control.Ok where
  beginReset s cause hold _ := State.beginReset_ok cause hold s
  leaveReset _ _ h _ := h
  holdMoves _ _ h _ := h
  symbolArrives _ sym h _ := State.symbolArrives_ok h sym
  errorArrives _ h _ := State.errorArrives_ok h
  linkRises _ h _ := h
  linkDown _ h _ _ := State.linkDown_ok h
  headerArrives _ _ rest h hf _ := State.headerArrives_ok h hf.2 rest
  fieldArrives _ _ rest h hf _ := State.fieldArrives_ok h hf.2 rest
  badSegmentArrives _ _ rest h hf _ := State.badSegmentArrives_ok h hf.2 rest
  emptyArrives _ _ _ h hf _ := State.emptyArrives_ok h hf.2 _
  requestArrives _ _ code rq h hf _ := State.requestArrives_ok h hf.2 _ code rq
  capture s f _ row h _ _ _ := (State.control_capture f (s.boundRow f row) s).symm ▸ h
  takeValue _ _ _ _ h hf _ _ := State.takeValue_ok h hf.2 _
  excessByte s _ _ h hf _ := State.frameSymbol_ok (s := s.validLink false) h hf.2 _
  endFrame s _ h hf := State.endFrame_ok (s := s.validLink false) h hf.2
  abortFor _ _ cause h _ := State.abortFor_ok h cause
  delimiterLeaves s x _ h _ _ := (State.control_frameLeft _ x s).symm ▸ h
  sample s field h _ := (State.control_takeSample (s.rawLevels field) s).symm ▸ h
  expiry s h hd := State.enterFallback_ok h (State.running_of_expiryDue hd) _
  periodStart _ _ h _ _ := h
  widthReached _ _ h _ _ := h
  cloneDone _ _ _ h _ hl _ := State.cloneDone_ok h hl _ _ _ _
  armed _ _ _ _ h _ hl _ hv := State.armDone_ok h hl (fun _ ha => ⟨(Option.some.inj ha).symm, hv⟩) _ _ _ _
  invalid _ _ _ _ _ h _ hl _ _ := State.armDone_ok h hl (armed := none) nofun _ _ _ _
  tick s _ h _ := h.timed (timer := s.mc.timer.map (· - 1)) (by simp [State.control])

/-- Settles O57: the consistency of a node is that of its control part, which whatever a command does keeps. -/
theorem nodeStaysConsistent : Obligations.NodeStaysConsistent := by
  have kept : KeptByEveryStep fun s => s.control.Ok := control_keptByActions.step fun _ _ h => h
  intro s t h hst
  exact t.consistent_iff.2 (kept s t (s.consistent_iff.1 h) hst)

end Sys2Proof.Machine
end

section
/-! SUPPORT. The frame in passage with the frame-pending tier, and the moves that keep them in order. -/

namespace Sys2Proof.Machine

/-- What the order of the frame in passage speaks of. -/
structure Passage where
  held : Bool
  inState : LinkState
  active : BankId
  frame : Option Frame
  pending : FramePending

/-- The frame in passage and the frame-pending tier of a node. -/
def State.passage (s : State) : Passage := ⟨s.held, s.link.inState, s.banks.active, s.fp.frame, s.store.framePending⟩

/-- R182 to R184, R8: a frame's record in order, `active` being the bank in the ACTIVE role. -/
structure Frame.InOrder (active : BankId) (f : Frame) : Prop where
  length_le : f.arrived.length ≤ 564
  awaited_iff : f.header = .awaited ↔ f.arrived.length < 8
  processed_ok : f.processed = true → f.bound = active ∧ ∃ L, f.header = .good .process L

/-- The order of a passage, clause by clause. -/
structure Passage.Ok (p : Passage) : Prop where
  frame_ok : ∀ f, p.frame = some f → p.held = false ∧ p.inState = .up ∧ f.InOrder p.active
  pending_ok : p.pending = FramePending.empty ∨ ∃ f, p.frame = some f ∧ f.processed = true

/-- The order of a node's frame is that of its passage. -/
theorem State.frameOk_iff (s : State) : s.FrameOk ↔ s.passage.Ok := by
  constructor
  · rintro ⟨h1, h2⟩
    refine ⟨fun f hf => ?_, h2⟩
    obtain ⟨hh, hl, h3, h4, h5⟩ := h1 f hf
    exact ⟨hh, hl, h3, h4, h5⟩
  · rintro ⟨h1, h2⟩
    refine ⟨fun f hf => ?_, h2⟩
    obtain ⟨hh, hl, h3, h4, h5⟩ := h1 f hf
    exact ⟨hh, hl, h3, h4, h5⟩

/-! ### A record -/

section
variable {a : BankId} {f : Frame}

theorem Frame.InOrder.eight_le (h : f.InOrder a) (hj : f.header ≠ .awaited) : 8 ≤ f.arrived.length :=
  Nat.le_of_not_lt fun hl => hj (h.awaited_iff.2 hl)

theorem Frame.InOrder.not_processed (h : f.InOrder a) (hn : ∀ L, f.header ≠ .good .process L) :
    f.processed = false := by
  cases hp : f.processed with
  | false => rfl
  | true =>
    obtain ⟨L, hL⟩ := (h.processed_ok hp).2
    exact absurd hL (hn L)

/-- Positions that arrive after the header keep a record in order, as do those that leave it short of eight. -/
theorem Frame.InOrder.extend (h : f.InOrder a) (arr : List Sym) (damaged : Bool) (provisional : Option Byte)
    (hl : f.arrived.length + arr.length ≤ 564)
    (hh : f.header ≠ .awaited ∨ f.arrived.length + arr.length < 8) :
    Frame.InOrder a
      { f with arrived := f.arrived ++ arr, damaged := damaged, provisional := provisional } where
  length_le := by simpa using hl
  awaited_iff := by
    rcases hh with hh | hh
    · exact iff_of_false hh (by have := h.eight_le hh; simp; omega)
    · exact iff_of_true (h.awaited_iff.2 (by omega)) (by simpa using hh)
  processed_ok := h.processed_ok

/-- A header has just been judged at its eighth position. -/
theorem Frame.inOrder_of_judged (hl : f.arrived.length = 8) (hj : f.header ≠ .awaited)
    (hp : f.processed = true → f.bound = a ∧ ∃ L, f.header = .good .process L) : f.InOrder a where
  length_le := by omega
  awaited_iff := iff_of_false hj (by omega)
  processed_ok := hp

theorem Frame.opened_inOrder (bound : BankId) : (Frame.opened bound).InOrder a where
  length_le := by simp [Frame.opened]
  awaited_iff := iff_of_true rfl (by simp [Frame.opened])
  processed_ok := nofun

end

/-! ### The moves -/

namespace Passage.Ok

variable {p : Passage} {f : Frame}

theorem inOrder (h : p.Ok) (hf : p.frame = some f) : f.InOrder p.active := (h.frame_ok f hf).2.2

/-- A frame that is not processed leaves the frame-pending tier empty. -/
theorem pending_empty (h : p.Ok) (hf : ∀ f, p.frame = some f → f.processed = false) :
    p.pending = FramePending.empty := by
  rcases h.pending_ok with he | ⟨f, hs, hp⟩
  · exact he
  · simp [hf f hs] at hp

/-- No frame in passage and an empty tier. -/
theorem idle (hf : p.frame = none) (hp : p.pending = FramePending.empty) : p.Ok where
  frame_ok := fun f h => by simp [hf] at h
  pending_ok := .inl hp

/-- While no frame is in passage the hold, the link and the roles may move. -/
theorem unframed (h : p.Ok) (hf : p.frame = none) (held : Bool) (l : LinkState) (active : BankId) :
    Ok { p with held := held, inState := l, active := active } :=
  idle hf (h.pending_empty fun f hs => by simp [hf] at hs)

/-- A frame in order over an empty tier. -/
theorem fresh (hh : p.held = false) (hl : p.inState = .up) (hp : p.pending = FramePending.empty)
    (hf : p.frame = some f) (ho : f.InOrder p.active) : p.Ok where
  frame_ok := fun g hg => by
    obtain rfl := Option.some.inj (hf.symm.trans hg)
    exact ⟨hh, hl, ho⟩
  pending_ok := .inl hp

/-- The record of the frame in passage moves on. -/
theorem advanced (h : p.Ok) (hf : p.frame = some f) {g : Frame} (ho : g.InOrder p.active)
    (hp : g.processed = f.processed) : Ok { p with frame := some g } where
  frame_ok := fun k hk => by
    obtain rfl := Option.some.inj hk
    exact ⟨(h.frame_ok f hf).1, (h.frame_ok f hf).2.1, ho⟩
  pending_ok := h.pending_ok.imp_right fun ⟨k, hk, hkp⟩ => by
    obtain rfl := Option.some.inj (hf.symm.trans hk)
    exact ⟨g, rfl, hp.trans hkp⟩

/-- A processed frame's captures stand in the tier. -/
theorem captured (h : p.Ok) (hf : p.frame = some f) (hp : f.processed = true) (pending : FramePending) :
    Ok { p with pending := pending } where
  frame_ok := h.frame_ok
  pending_ok := .inr ⟨f, hf, hp⟩

end Passage.Ok

/-! ### What the operations do to the passage -/

@[simp] theorem State.passage_emptyPending (s : State) :
    s.emptyPending.passage = { s.passage with pending := FramePending.empty } := rfl

@[simp] theorem State.passage_passSymbols (f : Frame) (arr : List Sym) (out : List OutSym) (s : State) :
    (s.passSymbols f arr out).passage = { s.passage with frame := some { f with
      arrived := f.arrived ++ arr, damaged := f.damaged || arr.any Sym.damages } } := rfl

@[simp] theorem State.passage_poisonIfExcess (f : Frame) (s : State) : (s.poisonIfExcess f).passage = s.passage := by
  unfold State.poisonIfExcess
  split
  · split <;> rfl
  · rfl

@[simp] theorem State.passage_tooLong (f : Frame) (s : State) :
    (s.tooLong f).passage = { s.passage with frame := none, pending := FramePending.empty } :=
  show { (s.poisonIfExcess f).passage with frame := none, pending := FramePending.empty } = _ by
    rw [State.passage_poisonIfExcess]

@[simp] theorem State.passage_redecideWith (ch : Pin → Bool) (s : State) :
    (s.redecideWith ch).passage = s.passage := by
  dsimp only [State.passage, State.redecideWith, State.held]

@[simp] theorem State.passage_enterFallback (c : Cause) (s : State) : (s.enterFallback c).passage = s.passage := by
  rw [State.enterFallback_eq, State.redecide, State.passage_redecideWith]
  dsimp only [State.passage, State.fallen, State.held]

@[simp] theorem State.passage_leaveFallback (s : State) : s.leaveFallback.passage = s.passage := by
  rw [State.leaveFallback_eq, State.redecide, State.passage_redecideWith]
  dsimp only [State.passage, State.risen, State.held]

@[simp] theorem State.passage_switchTo (g : Byte) (s : State) :
    (s.switchTo g).passage = { s.passage with active := s.banks.active.other } := by
  rw [State.switchTo_eq, State.passage_redecideWith]
  dsimp only [State.passage, State.switched, State.held]

@[simp] theorem State.passage_bindFrame (L : Nat) (f : Frame) (s : State) :
    (s.bindFrame L f).passage =
      { s.passage with frame := some { f with processed := true, bound := s.banks.active } } := by
  simp only [State.bindFrame]
  split <;> split <;> rfl

@[simp] theorem State.passage_enterOutputs (o : StrobeSet) (s : State) : (enterOutputs o s).passage = s.passage := by
  rw [enterOutputs_frame]
  rfl

@[simp] theorem State.passage_strobeHeader (h : Header) (s : State) : (s.strobeHeader h).passage = s.passage := by
  unfold State.strobeHeader State.applyStrobe
  split
  · split
    · rfl
    · rename_i o _
      exact State.passage_enterOutputs o s
  · rfl

theorem State.passage_takeSample (raw : PinWord) (s : State) : (s.takeSample raw).passage = s.passage := by
  unfold State.takeSample
  rw [foldl_deliverEdge_frame fun n => raw.getLsbD n.val]
  rfl

/-- A valid symbol at a link that is UP leaves it UP. -/
theorem State.passage_validLink {s : State} (h : s.link.inState = .up) (i : Bool) :
    (s.validLink i).passage = s.passage := by
  rw [State.validLink_up h]
  rfl

/-- The passage depends on the hold, the link state, the roles, the record and the frame-pending tier only. -/
theorem State.passage_congr {s t : State} (hh : t.hold = s.hold) (hl : t.link.inState = s.link.inState)
    (ha : t.banks.active = s.banks.active) (hf : t.fp.frame = s.fp.frame)
    (hp : t.store.framePending = s.store.framePending) : t.passage = s.passage := by
  simp only [State.passage, State.held, hh, hl, ha, hf, hp]

/-- A request leaves the passage alone. -/
theorem RequestKeeps.passage {s t : State} (h : RequestKeeps s t) : t.passage = s.passage :=
  State.passage_congr h.hold (by rw [h.link]) h.active (by rw [h.fp]) (by rw [h.store])

end Sys2Proof.Machine
end

section
/-! SUPPORT. The symbols, the frame ends, the requests and the commands keep the frame in passage in order. -/

namespace Sys2Proof.Machine

/-! ### When something of the frame is due -/

theorem Frame.headerDue_iff {f : Frame} {rest : List Sym} : f.headerDue rest = true ↔
    f.header = .awaited ∧ f.arrived.length + rest.length = 8 ∧ rest ≠ [] := by
  simp [Frame.headerDue, and_assoc]

theorem Frame.header_ne_awaited_of_fieldDue {f : Frame} {rest : List Sym} (h : f.fieldDue rest = true) :
    f.header ≠ .awaited ∧ f.arrived.length + rest.length = 10 := by
  simp only [Frame.fieldDue, Bool.and_eq_true, beq_iff_eq] at h
  refine ⟨fun ha => ?_, h.1.2⟩
  simp [ha] at h

theorem Frame.header_ne_awaited_of_hasSegment {f : Frame} (h : f.hasSegment = true) : f.header ≠ .awaited :=
  fun ha => by simp [Frame.hasSegment, ha] at h

theorem Frame.hasSegment_of_badSegmentDue {f : Frame} {rest : List Sym} (h : f.badSegmentDue rest = true) :
    f.hasSegment = true ∧ f.arrived.length + rest.length = 48 := by
  simp only [Frame.badSegmentDue, Bool.and_eq_true, beq_iff_eq] at h
  exact ⟨h.1.1.1.1, h.1.1.2⟩

theorem Frame.hasSegment_of_segmentDue {f : Frame} {bytes : List Byte} (h : f.segmentDue bytes = true) :
    f.hasSegment = true ∧ f.arrived.length < 48 := by
  simp only [Frame.segmentDue, Bool.and_eq_true, decide_eq_true_eq] at h
  exact ⟨h.1.1.1, h.1.2⟩

theorem Frame.hasSegment_of_lastOfSegment {f : Frame} (h : f.lastOfSegment = true) :
    f.hasSegment = true ∧ f.arrived.length = 47 := by
  simpa [Frame.lastOfSegment] using h

theorem Frame.header_ne_awaited_of_excessDue {f : Frame} (h : f.excessDue = true) : f.header ≠ .awaited :=
  fun ha => by simp [Frame.excessDue, ha] at h

theorem Frame.processed_of_imageLength {f : Frame} {L : Nat} (h : f.imageLength = some L) : f.processed = true := by
  unfold Frame.imageLength at h
  split at h
  · split at h
    · assumption
    · cases h
  · cases h

@[simp] theorem requestBytes_length (code : Byte) (rq : Request) : (requestBytes code rq).length = 40 := by
  simp [requestBytes, withCheck, payload32, bytes16]

@[simp] theorem emptyBytes_length (body : List Byte) : (emptyBytes body).length = 40 := by
  simp [emptyBytes, withCheck, bytes16]

/-! ### The symbols of a frame in passage -/

section
variable {f : Frame} {s t : State}

/-- Positions of the frame in passage arrive, at a node whose passage is that of `s`. -/
theorem State.passSymbols_inOrder (h : s.passage.Ok) (hf : s.fp.frame = some f) (ht : t.passage = s.passage)
    {arr : List Sym} (out : List OutSym) (provisional : Option Byte) (hl : f.arrived.length + arr.length ≤ 564)
    (hh : f.header ≠ .awaited ∨ f.arrived.length + arr.length < 8) :
    (t.passSymbols { f with provisional := provisional } arr out).passage.Ok := by
  rw [State.passage_passSymbols, ht]
  exact h.advanced hf ((h.inOrder hf).extend arr _ provisional hl hh) rfl

theorem State.frameSymbol_inOrder (h : s.passage.Ok) (hf : s.fp.frame = some f) (x : Sym)
    (hh : f.header ≠ .awaited ∨ f.arrived.length + 1 < 8) : (s.frameSymbol f x).passage.Ok := by
  unfold State.frameSymbol
  split
  · rw [State.passage_tooLong]
    exact .idle rfl rfl
  · rename_i hlen
    have hle := (h.inOrder hf).length_le
    refine State.passSymbols_inOrder h hf (State.passage_poisonIfExcess f s) _ f.provisional ?_ hh
    simp only [Config.maxFrameBytes] at hlen
    simp only [List.length_singleton]
    omega

/-- Over an empty tier, a good PROCESS header leaves a frame in order, whatever its outcome. -/
theorem State.processHeader_inOrder (hh : s.held = false) (hl : s.link.inState = .up)
    (hp : s.store.framePending = FramePending.empty) (h8 : f.arrived.length = 8) {L : Nat}
    (hg : f.header = .good .process L) (hn : f.processed = false) (hd : Header) :
    (s.processHeader hd f).passage.Ok := by
  have unbound : ∀ a, f.InOrder a := fun a =>
    Frame.inOrder_of_judged h8 (by simp [hg]) (by simp [hn])
  have bound : ∀ a, Frame.InOrder a { f with processed := true, bound := a } := fun a =>
    Frame.inOrder_of_judged h8 (by simp [hg]) fun _ => ⟨rfl, L, hg⟩
  unfold State.processHeader
  split
  · exact .fresh hh hl hp rfl (unbound _)
  · split
    · exact .fresh hh hl hp rfl (unbound _)
    · rw [State.passage_bindFrame, State.passage_switchTo]
      exact .fresh hh hl hp rfl (bound _)
    · rw [State.passage_bindFrame]
      exact .fresh hh hl hp rfl (bound _)
    · exact .fresh hh hl hp rfl (unbound _)

theorem State.handOn_inOrder (hh : s.held = false) (hl : s.link.inState = .up)
    (hp : s.store.framePending = FramePending.empty) (h8 : f.arrived.length = 8) {hd : Header}
    (hg : f.header = .good hd.type hd.length) (hn : f.processed = false) : (s.handOn hd f).passage.Ok := by
  have unbound : f.InOrder s.banks.active :=
    Frame.inOrder_of_judged h8 (by simp [hg]) (by simp [hn])
  unfold State.handOn
  split
  · rename_i ht
    exact State.processHeader_inOrder hh hl hp h8 (ht ▸ hg) hn hd
  · rw [State.passage_strobeHeader]
    exact .fresh hh hl hp rfl unbound
  · exact .fresh hh hl hp rfl unbound

theorem State.headerArrives_inOrder (h : s.passage.Ok) (hf : s.fp.frame = some f) {rest : List Sym}
    (hd : f.headerDue rest = true) : (s.headerArrives f rest).passage.Ok := by
  obtain ⟨ha, h8, -⟩ := Frame.headerDue_iff.1 hd
  obtain ⟨hh, hl, ho⟩ := h.frame_ok f hf
  have hn : f.processed = false := ho.not_processed (by simp [ha])
  have hp : s.store.framePending = FramePending.empty := h.pending_empty fun g hg => by
    obtain rfl := Option.some.inj (hf.symm.trans hg)
    exact hn
  have h8' : (f.arrived ++ rest).length = 8 := by simpa using h8
  unfold State.headerArrives
  split
  · rw [State.badHeader, State.passage_passSymbols]
    exact .fresh hh hl hp rfl (Frame.inOrder_of_judged h8' (by simp) (by simp [hn]))
  · unfold State.goodHeader
    exact State.handOn_inOrder (by exact hh) (by exact hl) (by exact hp) h8' rfl hn

theorem State.fieldArrives_inOrder (h : s.passage.Ok) (hf : s.fp.frame = some f) {rest : List Sym}
    (hd : f.fieldDue rest = true) : (s.fieldArrives f rest).passage.Ok := by
  obtain ⟨hj, hlen⟩ := Frame.header_ne_awaited_of_fieldDue hd
  unfold State.fieldArrives
  dsimp only
  split
  · exact State.passSymbols_inOrder h hf (by rfl) _ _ (by omega) (.inl hj)
  · exact State.passSymbols_inOrder h hf rfl _ f.provisional (by omega) (.inl hj)

/-! ### Segments -/

/-- A segment of forty symbols completes, at a node whose passage is that of `s`. -/
theorem State.passSegment_inOrder (h : s.passage.Ok) (hf : s.fp.frame = some f) (ht : t.passage = s.passage)
    (hs : f.hasSegment = true) (hlen : f.arrived.length < 48) {arr : List Sym} (harr : arr.length = 40)
    (out : List OutSym) : (t.passSegment f arr out).passage.Ok := by
  have hj := Frame.header_ne_awaited_of_hasSegment hs
  have h8 := (h.inOrder hf).eight_le hj
  unfold State.passSegment
  refine State.passSymbols_inOrder h hf (by exact ht) _ f.provisional ?_ (.inl hj)
  rw [List.length_drop, harr]
  omega

theorem State.badSegmentArrives_inOrder (h : s.passage.Ok) (hf : s.fp.frame = some f) {rest : List Sym}
    (hs : f.hasSegment = true) (hlen : f.arrived.length + rest.length = 48) :
    (s.badSegmentArrives f rest).passage.Ok := by
  refine State.passSymbols_inOrder h hf ?_ _ f.provisional (by omega)
    (.inl (Frame.header_ne_awaited_of_hasSegment hs))
  split <;> rfl

theorem State.emptyArrives_inOrder (h : s.passage.Ok) (hf : s.fp.frame = some f) (hs : f.hasSegment = true)
    (hlen : f.arrived.length < 48) {bytes : List Byte} (hb : bytes.length = 40) :
    (s.emptyArrives f bytes).passage.Ok := by
  unfold State.emptyArrives
  split
  · split
    · exact State.passSegment_inOrder h hf (by rfl) hs hlen (by simpa using hb) _
    · exact State.passSegment_inOrder h hf rfl hs hlen (by simpa using hb) _
  · exact State.passSegment_inOrder h hf rfl hs hlen (by simpa using hb) _

theorem State.requestArrives_inOrder (h : s.passage.Ok) (hf : s.fp.frame = some f) (hs : f.hasSegment = true)
    (hlen : f.arrived.length < 48) {bytes : List Byte} (hb : bytes.length = 40) (code : Byte) (rq : Request) :
    (s.requestArrives f bytes rq (handleRequest code rq)).passage.Ok := by
  unfold State.requestArrives
  split
  · have hk := (handleRequest_requestKeeps code rq s).passage
    split
    all_goals
      rename_i hr
      rw [hr] at hk
      exact State.passSegment_inOrder h hf hk hs hlen (by simpa using hb) _
  · exact State.passSegment_inOrder h hf rfl hs hlen (by simpa using hb) _

theorem State.segmentArrives_inOrder (h : s.passage.Ok) (hf : s.fp.frame = some f)
    (hd : f.lastOfSegment = true) (x : Sym) : (s.segmentArrives f [x]).passage.Ok := by
  obtain ⟨hs, hlen⟩ := Frame.hasSegment_of_lastOfSegment hd
  have hb : ((f.arrived.drop 8 ++ [x]).map Sym.value).length = 40 := by simp [hlen]
  unfold State.segmentArrives
  dsimp only
  split
  · exact State.badSegmentArrives_inOrder h hf hs (by simp [hlen])
  split
  · exact State.emptyArrives_inOrder h hf hs (by omega) hb
  split
  · exact State.requestArrives_inOrder h hf hs (by omega) hb _ _
  · exact State.passSegment_inOrder h hf rfl hs (by omega) (by simpa using hb) _

/-! ### The frame end -/

theorem State.passage_applyFrame (policy : Row) (s : State) : (applyFrame policy s).passage = s.passage := by
  have modes : ∀ u : State, (goodFrameAtMode policy u).passage = u.passage := by
    intro u
    unfold goodFrameAtMode
    split
    · rfl
    split
    · exact State.passage_leaveFallback u
    · rfl
  have acks : ∀ (a : Option Half) (u : State), (takeAck a u).passage = u.passage := by
    intro a u
    cases a <;> rfl
  have toggles : ∀ (v : Vector (Option Byte) 4) (u : State), (takeToggles v u).passage = u.passage := fun _ _ => rfl
  simp only [applyFrame, modes, acks, toggles]
  split
  · unfold fillStrobe
    split <;> rfl
  · exact State.passage_enterOutputs _ s

theorem State.endFrame_inOrder (h : s.passage.Ok) (hf : s.fp.frame = some f) : (s.endFrame f).passage.Ok := by
  unfold State.endFrame
  split
  · exact .idle rfl rfl
  · exact .idle rfl rfl
  · rename_i ty L hg
    have unprocessed : ty ≠ .process → s.store.framePending = FramePending.empty := fun hty =>
      h.pending_empty fun g hgs => by
        obtain rfl := Option.some.inj (hf.symm.trans hgs)
        exact (h.inOrder hf).not_processed (by simp [hg, hty])
    cases ty with
    | process =>
      simp only [deliverVerdict, State.passage_emptyPending]
      refine .idle ?_ rfl
      split
      · rw [State.passage_applyFrame]
        rfl
      · rfl
    | strobe => exact .idle rfl (unprocessed (by simp))
    | address =>
      have hp := unprocessed (by simp)
      simp only [deliverVerdict, takeAddress]
      split
      · split
        · exact .idle rfl hp
        · exact .idle rfl hp
      · exact .idle rfl hp

/-! ### The symbols of the IN link -/

theorem State.symbolInFrame_inOrder (h : s.passage.Ok) (hf : s.fp.frame = some f) (x : Sym) :
    (s.symbolInFrame f x).passage.Ok := by
  unfold State.symbolInFrame
  split
  next hd => exact State.headerArrives_inOrder h hf hd
  rename_i hd
  split
  next hfd => exact State.fieldArrives_inOrder h hf hfd
  split
  next hs => exact State.segmentArrives_inOrder h hf hs x
  refine State.frameSymbol_inOrder h hf x ?_
  by_cases ha : f.header = .awaited
  · have hlt := (h.inOrder hf).awaited_iff.1 ha
    have h8 : f.arrived.length + 1 ≠ 8 := fun h8 => hd (Frame.headerDue_iff.2 ⟨ha, by simpa using h8, by simp⟩)
    exact .inr (by omega)
  · exact .inl ha

/-- While the IN link is not UP no frame is in passage. -/
theorem Passage.Ok.frame_none (h : s.passage.Ok) (hl : s.link.inState ≠ .up) : s.fp.frame = none := by
  cases hf : s.fp.frame with
  | none => rfl
  | some f => exact absurd (h.frame_ok f hf).2.1 hl

theorem Passage.Ok.validLink (h : s.passage.Ok) (i : Bool) : (s.validLink i).passage.Ok := by
  by_cases hl : s.link.inState = .up
  · exact (State.passage_validLink hl i).symm ▸ h
  · exact h.unframed (h.frame_none hl) s.held _ s.banks.active

theorem State.startArrives_inOrder (h : s.passage.Ok) (hh : s.held = false) : s.startArrives.passage.Ok := by
  have hv := h.validLink false
  unfold State.startArrives
  dsimp only
  split
  · rename_i hl
    split
    · exact hv
    · split
      · exact .idle rfl rfl
      · rename_i hf
        have hp := h.pending_empty fun g hg => by simp [State.passage, hf] at hg
        exact .fresh hh (by simpa [State.passage, State.validLink_up hl] using hl) hp rfl (Frame.opened_inOrder _)
  · exact hv

theorem State.idleArrives_inOrder (h : s.passage.Ok) (mark : Option Byte) (out : OutSym) :
    (s.idleArrives mark out).passage.Ok := by
  have hv := h.validLink true
  unfold State.idleArrives
  dsimp only
  split
  · split
    · rename_i hf
      exact State.symbolInFrame_inOrder hv hf _
    · exact hv
  · exact hv

theorem State.symbolArrives_inOrder (h : s.passage.Ok) (hh : s.held = false) (sym : Symbol) :
    (s.symbolArrives sym).passage.Ok := by
  have hv := h.validLink false
  cases sym with
  | startDelimiter => exact State.startArrives_inOrder h hh
  | plainIdle => exact State.idleArrives_inOrder h _ _
  | breakIdle a => exact State.idleArrives_inOrder h _ _
  | data b =>
    simp only [State.symbolArrives, State.dataArrives]
    split
    · split
      · rename_i hf
        exact State.symbolInFrame_inOrder hv hf _
      · exact hv
    · exact hv
  | endDelimiter =>
    simp only [State.symbolArrives, State.endArrives]
    split
    · split
      · rename_i hf
        exact State.endFrame_inOrder hv hf
      · exact hv
    · exact hv
  | abortDelimiter =>
    simp only [State.symbolArrives, State.abortArrives]
    split
    · split
      · exact .idle rfl rfl
      · exact hv
    · exact hv

theorem State.errorArrives_inOrder (h : s.passage.Ok) : s.errorArrives.passage.Ok := by
  unfold State.errorArrives
  dsimp only
  split
  · exact h
  · rename_i hl
    exact h.unframed (h.frame_none (by simp [hl])) s.held s.link.inState s.banks.active
  · split
    · rename_i hf
      exact State.symbolInFrame_inOrder h hf _
    · exact h

/-! ### Aborts and the other commands on the frame -/

theorem State.abortAtLinkDown_inOrder (h : s.passage.Ok) : s.abortAtLinkDown.passage.Ok := by
  unfold State.abortAtLinkDown
  split
  · exact h
  · exact .idle rfl rfl

theorem State.linkDown_inOrder (h : s.passage.Ok) : s.linkDown.passage.Ok := by
  have ht := (State.abortAtLinkDown_inOrder h).unframed (State.abortAtLinkDown_frame s)
    s.abortAtLinkDown.held s.abortAtLinkDown.link.fall.inState s.abortAtLinkDown.banks.active
  unfold State.linkDown State.linkLost
  dsimp only
  split
  · rw [State.passage_enterFallback]
    exact ht
  · exact ht

theorem State.abortFor_inOrder (h : s.passage.Ok) (cause : AbortCause) : (s.abortFor cause f).passage.Ok := by
  cases cause with
  | linkDown => exact State.abortAtLinkDown_inOrder h
  | abortDelimiter => exact .idle rfl rfl
  | startDelimiter => exact .idle rfl rfl
  | tooLong =>
    simp only [State.abortFor]
    split
    · rw [State.passage_tooLong]
      exact .idle rfl rfl
    · exact h

theorem State.capture_inOrder (h : s.passage.Ok) (hf : s.fp.frame = some f) (hp : f.processed = true) (r : Row) :
    (s.capture f r).passage.Ok := by
  unfold State.capture
  split
  · exact h
  · exact h.captured hf hp _

theorem State.takeValue_inOrder (h : s.passage.Ok) (hf : s.fp.frame = some f) (r : Row) :
    (s.takeValue f r).passage.Ok := by
  have ho := h.inOrder hf
  unfold State.takeValue
  split
  · exact h
  · exact h.advanced hf (g := { f with taken := _ }) ⟨ho.length_le, ho.awaited_iff, ho.processed_ok⟩ rfl

end

/-! ### The commands -/

/-- A held node has no frame in passage. -/
theorem Passage.Ok.frame_none_of_held {s : State} (h : s.passage.Ok) (hh : s.held = true) : s.fp.frame = none := by
  cases hf : s.fp.frame with
  | none => rfl
  | some f => exact absurd ((h.frame_ok f hf).1.symm.trans hh) nofun

/-- R177: the IN link rises from SETTLING. -/
theorem State.down_of_linkUpDue {s : State} (h : s.linkUpDue = true) : s.link.inState ≠ .up := by
  simp only [State.linkUpDue, Bool.and_eq_true, beq_iff_eq] at h
  simp [h.1.2]

/-- A delimiter that leaves OUT leaves the IN link alone. -/
theorem LinkInterface.leave_inState (l : LinkInterface) (x : OutSym) (rest : List OutSym) :
    (l.leave x rest).inState = l.inState := by
  unfold LinkInterface.leave
  split
  · rfl
  split <;> rfl

/-- A good header leaves the record beyond its eighth position. -/
theorem State.excessByte_inOrder {f : Frame} {s : State} (h : s.passage.Ok) (hf : s.fp.frame = some f)
    (hd : f.excessDue = true) (b : Byte) : ((s.validLink false).frameSymbol f (.byte b)).passage.Ok :=
  State.frameSymbol_inOrder (h.validLink false) hf _ (.inl (Frame.header_ne_awaited_of_excessDue hd))

/-- Whatever a command does keeps the frame in passage and the frame-pending tier in order. -/
theorem passage_keptByActions : KeptByActions fun s => s.passage.Ok where
  beginReset _ _ _ _ := .idle rfl rfl
  leaveReset s _ h hh := h.unframed (h.frame_none_of_held hh) false s.link.inState s.banks.active
  holdMoves s hold h hh :=
    h.unframed (h.frame_none_of_held hh) (State.held { s with hold := hold }) s.link.inState s.banks.active
  symbolArrives _ sym h hh := State.symbolArrives_inOrder h hh sym
  errorArrives _ h _ := State.errorArrives_inOrder h
  linkRises s h hd := h.unframed (h.frame_none (State.down_of_linkUpDue hd)) s.held s.link.rise.inState s.banks.active
  linkDown _ h _ _ := State.linkDown_inOrder h
  headerArrives _ _ _ h hf hd := State.headerArrives_inOrder h hf.2 hd
  fieldArrives _ _ _ h hf hd := State.fieldArrives_inOrder h hf.2 hd
  badSegmentArrives _ _ _ h hf hd :=
    State.badSegmentArrives_inOrder h hf.2 (Frame.hasSegment_of_badSegmentDue hd).1
      (Frame.hasSegment_of_badSegmentDue hd).2
  emptyArrives _ _ body h hf hd :=
    State.emptyArrives_inOrder h hf.2 (Frame.hasSegment_of_segmentDue hd).1 (Frame.hasSegment_of_segmentDue hd).2
      (emptyBytes_length body)
  requestArrives _ _ code rq h hf hd :=
    State.requestArrives_inOrder h hf.2 (Frame.hasSegment_of_segmentDue hd).1 (Frame.hasSegment_of_segmentDue hd).2
      (requestBytes_length code rq) code rq
  capture _ _ _ _ h hf hL _ := State.capture_inOrder h hf.2 (Frame.processed_of_imageLength hL) _
  takeValue _ _ _ _ h hf _ _ := State.takeValue_inOrder h hf.2 _
  excessByte _ _ b h hf hd := State.excessByte_inOrder h hf.2 hd b
  endFrame _ _ h hf := State.endFrame_inOrder (h.validLink false) hf.2
  abortFor _ _ cause h _ := State.abortFor_inOrder h cause
  delimiterLeaves s x rest h _ _ := by
    rwa [State.passage_congr (s := s) (by rfl) (LinkInterface.leave_inState s.link x rest) (by rfl) (by rfl) (by rfl)]
  sample s field h _ := (State.passage_takeSample (s.rawLevels field) s).symm ▸ h
  expiry s h _ := (State.passage_enterFallback .timeout s).symm ▸ h
  periodStart _ _ h _ _ := h
  widthReached _ _ h _ _ := h
  cloneDone s _ _ h _ _ _ := by
    rwa [State.passage_congr (s := s) (by rfl) (by rfl) (BankUnit.active_setStaged s.banks _) (by rfl) (by rfl)]
  armed _ _ _ _ h _ _ _ _ := h
  invalid _ _ _ _ _ h _ _ _ _ := h
  tick _ _ h _ := h

/-- Settles O59: the order of a node's frame is that of its passage, which whatever a command does keeps. -/
theorem frameStaysInOrder : Obligations.FrameStaysInOrder := by
  have kept : KeptByEveryStep fun s => s.passage.Ok := passage_keptByActions.step fun _ _ h => h
  intro s t h hst
  exact t.frameOk_iff.2 (kept s t (s.frameOk_iff.1 h) hst)

end Sys2Proof.Machine
end

section
/-! SUPPORT. Resets carried to their end: the value of every item. -/

namespace Sys2Proof.Machine

/-! ### The commands of a reset when they are due -/

theorem exec_supplyGood {s : State} (h : s.hold.power = .waiting) :
    exec .supplyGood s = .next { s with hold := { s.hold with power := .timing } } :=
  congrArg Host.Outcome.next (if_pos h)

theorem exec_nrstRises {s : State} (h : s.hold.pin = .waiting) :
    exec .nrstRises s = .next { s with hold := { s.hold with pin := .timing } } :=
  congrArg Host.Outcome.next (if_pos h)

theorem exec_softReset {s : State} (hh : s.held = false) (hr : s.mc.restart = some 0) :
    exec .softReset s =
      .next (s.beginReset { s.mc.resetCause with soft := true } { s.hold with soft := .timing }) :=
  congrArg Host.Outcome.next (if_pos (by simp [State.softResetDue, hh, hr]))

theorem exec_endOfReset {s : State} (field : List PadField) (h : s.resetEndDue = true) :
    exec (.endOfReset field) s = .next (s.leaveReset field) :=
  congrArg Host.Outcome.next (if_pos h)

/-- The last hold time can end at a held node that waits for no event. -/
theorem State.resetEndDue_iff {s : State} :
    s.resetEndDue = true ↔ s.held = true ∧ s.hold.power ≠ .waiting ∧ s.hold.pin ≠ .waiting := by
  simp [State.resetEndDue, and_assoc]

/-! ### The items -/

/-- A node that has left a reset: the items of State.reset, but for the reset cause record, the levels of the first
sample, the counter of free values and the queue of commands. -/
def State.outOfReset (cause : ResetCause) (levels : PinWord) (free : Nat) (queue : List Instr) : State :=
  { State.reset with
    mc := ModeController.reset cause
    sampler := InputSampler.reset levels
    freeCount := free
    pending := queue }

/-- A node that has begun a reset, whatever its hold stages, leaves it with those items. -/
theorem State.leaveReset_beginReset (cause : ResetCause) (hold hold' : ResetHold) (field : List PadField) (s : State) :
    ∃ levels free, State.leaveReset field { s.beginReset cause hold with hold := hold' } =
      State.outOfReset cause levels free s.pending :=
  ⟨_, _, rfl⟩

/-- The items of a node that has left a reset, one by one. -/
theorem State.outOfReset_items (cause : ResetCause) (levels : PinWord) (free : Nat) (queue : List Instr) :
    let s := State.outOfReset cause levels free queue
    s.banks = ⟨Bank.zero, Bank.zero, .bank0, 0, none, .idle⟩ ∧
    s.store.dout = 0 ∧ s.store.strobePending = none ∧ s.store.framePending.dout = none ∧
    s.store.framePending.evack = none ∧
    (∀ n : Unit4, s.store.pgset[n] = ⟨0, 0⟩ ∧ s.store.toggles[n] = false ∧
      s.store.framePending.pgset[n] = none ∧ s.store.framePending.ccctl[n] = none ∧
      s.pg[n] = ⟨.off, 0, 0, 0, 0, false, false⟩ ∧ s.cc[n] = ⟨0, 0, none⟩) ∧
    (∀ n : Pin, s.pins.force[n] = none ∧ s.pins.held[n] = none ∧ s.pins.owner[n] = .idle ∧
      s.sampler.run[n] = 0 ∧ s.sampler.settle[n] = 0) ∧
    s.sampler.tick = 0 ∧ s.sampler.phase = 0 ∧ s.sampler.snapshot = 0 ∧ s.sampler.due = false ∧
    s.queue = ⟨[], 0, 0⟩ ∧
    s.mc = ⟨0, .unaddressed, .none, none, none, cause⟩ ∧
    s.mx = ⟨.idle, none, ⟨.active, .slot, 0⟩⟩ ∧
    s.fp = ⟨none, 0⟩ ∧
    s.link = ⟨.down, 0, none, .brk, [], 0, false⟩ ∧
    s.stats = ⟨0, 0, 0, 0, 0, 0, 0, 0, 0, 0, 0, 0, 0, 0, 0, 0⟩ ∧
    s.hold = ⟨.off, .off, .off⟩ := by
  refine ⟨rfl, rfl, rfl, rfl, rfl, fun n => ?_, fun n => ?_, rfl, rfl, rfl, rfl, rfl, rfl, rfl, rfl, rfl, rfl, rfl⟩
  · simp [State.outOfReset, State.reset, ChannelStore.reset, FramePending.empty, PulseGen.reset,
      CounterCapture.cleared]
  · simp [State.outOfReset, State.reset, PinResolver.reset, InputSampler.reset]

/-- Settles O3: each kind of reset, carried to its end, leaves the node with the items of State.reset. -/
theorem resetValues : Obligations.ResetValues := by
  refine ⟨?_, ?_, ?_, rfl, State.outOfReset_items ⟨true, false, false⟩ 0 0 [], rfl, rfl, rfl, ?_, ?_, ?_⟩
  · intro i
    simp [Bank.zero, Row.bytes, Row.zero, List.replicate]
  · intro i
    simp [Bank.zero, Row.bytes, Row.zero, List.replicate]
  · intro i
    simp [Bank.zero, Row.bytes, Row.zero, List.replicate]
  · intro field s hpin
    obtain ⟨levels, free, ht⟩ := State.leaveReset_beginReset ⟨true, false, false⟩
      { s.hold with power := .waiting } { s.hold with power := .timing } field s
    exact ⟨_, _, _, rfl, exec_supplyGood rfl,
      exec_endOfReset field (State.resetEndDue_iff.2 ⟨by simp [State.held], nofun, hpin⟩),
      ht ▸ State.outOfReset_items _ _ _ _⟩
  · intro field s hpower
    obtain ⟨levels, free, ht⟩ := State.leaveReset_beginReset { s.mc.resetCause with pin := true }
      { s.hold with pin := .waiting } { s.hold with pin := .timing } field s
    exact ⟨_, _, _, rfl, exec_nrstRises rfl,
      exec_endOfReset field (State.resetEndDue_iff.2 ⟨by simp [State.held], hpower, nofun⟩),
      ht ▸ State.outOfReset_items _ _ _ _⟩
  · intro field s hh hr
    obtain ⟨levels, free, ht⟩ := State.leaveReset_beginReset { s.mc.resetCause with soft := true }
      { s.hold with soft := .timing } { s.hold with soft := .timing } field s
    obtain ⟨⟨hpower, hpin⟩, -⟩ : (s.hold.power = .off ∧ s.hold.pin = .off) ∧ s.hold.soft = .off := by
      simpa [State.held] using hh
    exact ⟨_, _, exec_softReset hh hr,
      exec_endOfReset field (State.resetEndDue_iff.2
        ⟨by simp [State.held, State.beginReset], by simp [State.beginReset, hpower], by simp [State.beginReset, hpin]⟩),
      ht ▸ State.outOfReset_items _ _ _ _⟩

end Sys2Proof.Machine
end

section
/-! SUPPORT. A good header of the frame in passage: what is sent on, the generation decision, the switch. -/

namespace Sys2Proof.Machine

/-! ### The header as sent -/

/-- The eight bytes of a header as sent, for the arriving hop count. -/
def headerOut (bytes : List Byte) (hop : Byte) : List Byte :=
  let sent := bytes.take 6 ++ [if hop = 255 then 255 else hop + 1]
  sent ++ [crc8 sent]

/-- R184: the header has been rewritten on its way to OUT and the position recorded; nothing has been handed on. -/
def State.headerSent (h : Header) (f : Frame) (rest : List Sym) (s : State) : State :=
  { s with
    fp := { s.fp with position := h.hop }
    link := { s.link with
      line := drain (replaceTail f.arrived.length
        ((headerOut ((f.arrived ++ rest).map Sym.value) h.hop).map OutSym.data) s.link.line)
      errorRun := 0 } }

/-- The record of a frame whose good header has been judged. -/
def Frame.judged (h : Header) (rest : List Sym) (f : Frame) : Frame :=
  { f with arrived := f.arrived ++ rest, header := .good h.type h.length }

/-- A good header that is due is rewritten and handed on. -/
theorem exec_frameHeader_good {f : Frame} {rest : List Sym} {h : Header} {s : State} (hp : s.passing f)
    (hd : f.headerDue rest = true) (hj : judgeHeader (f.arrived ++ rest) = some h) :
    exec (.frameHeader rest) s = .next ((s.headerSent h f rest).handOn h (f.judged h rest)) := by
  obtain ⟨hh, hf⟩ := hp
  obtain ⟨-, -, -, hop, -⟩ := judgeHeader_eq_some hj
  have hout : sentHeader ((f.arrived ++ rest).map Sym.value) =
      headerOut ((f.arrived ++ rest).map Sym.value) h.hop := by
    rw [hop]
    rfl
  have hgood : s.headerArrives f rest = (s.headerSent h f rest).handOn h (f.judged h rest) := by
    simp only [State.headerArrives, hj, State.goodHeader, hout]
    rfl
  simp only [exec, execFrameHeader, hh, hf, hd, hgood, if_true, Bool.false_eq_true, if_false]

/-! ### The generation decision -/

section
variable {u : BankUnit} {g : Byte}

theorem decideGeneration_zero (hg : g = 0) : decideGeneration u g = .managementOnly := if_pos hg

theorem decideGeneration_armed (hg : g ≠ 0) (ha : u.armed = some g) : decideGeneration u g = .switch := by
  rw [decideGeneration, if_neg hg, if_pos ha]

theorem decideGeneration_active (hg : g ≠ 0) (ha : u.armed ≠ some g) (he : g = u.gen) :
    decideGeneration u g = .processed := by
  rw [decideGeneration, if_neg hg, if_neg ha, if_pos ⟨he ▸ hg, he⟩]

theorem decideGeneration_other (hg : g ≠ 0) (ha : u.armed ≠ some g) (hn : u.gen = 0 ∨ g ≠ u.gen) :
    decideGeneration u g = .mismatch := by
  rw [decideGeneration, if_neg hg, if_neg ha, if_neg]
  rintro ⟨h0, he⟩
  exact hn.elim h0 (· he)

end

/-! ### The outcomes of a PROCESS header (Table 1-8) -/

section
variable {h : Header} {f : Frame} {s : State}

theorem State.processHeader_unprocessed (hu : s.mc.address = 0 ∨ h.gen = 0) :
    s.processHeader h f = s.setFrame (some f) := by
  unfold State.processHeader
  split
  · rfl
  · rename_i ha
    rw [decideGeneration_zero (hu.resolve_left ha)]

theorem State.processHeader_armed (ha : s.mc.address ≠ 0) (hg : h.gen ≠ 0) (hs : s.banks.armed = some h.gen) :
    s.processHeader h f = (s.switchTo h.gen).bindFrame h.length f := by
  rw [State.processHeader, if_neg ha, decideGeneration_armed hg hs]

theorem State.processHeader_active (ha : s.mc.address ≠ 0) (hg : h.gen ≠ 0) (hs : s.banks.armed ≠ some h.gen)
    (he : h.gen = s.banks.gen) : s.processHeader h f = s.bindFrame h.length f := by
  rw [State.processHeader, if_neg ha, decideGeneration_active hg hs he]

theorem State.processHeader_other (ha : s.mc.address ≠ 0) (hg : h.gen ≠ 0) (hs : s.banks.armed ≠ some h.gen)
    (hn : s.banks.gen = 0 ∨ h.gen ≠ s.banks.gen) :
    s.processHeader h f =
      (s.setStats { s.stats with genMismatch := satInc s.stats.genMismatch }).setFrame (some f) := by
  rw [State.processHeader, if_neg ha, decideGeneration_other hg hs hn]

end

/-! ### A processed header -/

/-- R38: an enabled entry lies beyond the image. -/
theorem skipsEntry_iff {slots : List Row} {L : Nat} :
    skipsEntry slots L = true ↔ ∃ r ∈ slots, r.b0 ≠ 0 ∧ L < r.offset + r.width := by
  simp [skipsEntry, Row.slotEnabled, Row.fits]

/-- R8, R38, R53: what a processed header changes. -/
theorem State.bindFrame_eq (L : Nat) (f : Frame) (s : State) :
    s.bindFrame L f = { s with
      stats :=
        if ∃ r ∈ s.banks.activeBank.slot.toList, r.b0 ≠ 0 ∧ L < r.offset + r.width then
          { s.stats with shortFrames := satInc s.stats.shortFrames } else s.stats
      fp := { s.fp with frame := some { f with processed := true, bound := s.banks.active } }
      sampler := { s.sampler with
        snapshot := if s.policy.b3 = 1 then s.sampler.snapshot else s.sampler.level } } := by
  simp only [State.bindFrame, skipsEntry_iff, Row.strobed, beq_iff_eq, State.policy]
  by_cases hs : s.banks.activeBank.policy.b3 = 1 <;>
    by_cases hk : ∃ r ∈ s.banks.activeBank.slot.toList, r.b0 ≠ 0 ∧ L < r.offset + r.width <;>
    simp only [hs, hk, if_true, if_false] <;> rfl

/-! ### What a header does -/

/-- Settles O16: an ADDRESS header is not handed to the Bank Unit, nor is a PROCESS header at a node without an address;
of the decisions, management-only changes nothing and a mismatch its counter. -/
theorem goodHeaderRewritten : Obligations.GoodHeaderRewritten := by
  intro f rest h s hp hd hj mismatch hcase bytes sent
  rw [exec_frameHeader_good hp hd hj]
  rcases hcase with ht | ⟨ht, hcase⟩
  · rw [State.handOn, ht, if_neg (c := FrameType.address = .process ∧ mismatch) (by simp)]
    simp only [Frame.judged, ht]
    rfl
  · rw [State.handOn, ht]
    dsimp only
    by_cases hm : mismatch
    · rw [if_pos (c := FrameType.process = .process ∧ mismatch) ⟨rfl, hm⟩]
      obtain ⟨ha, hg, hs, hn⟩ := hm
      rw [State.processHeader_other (by exact ha) hg (by exact hs) (by exact hn)]
      simp only [Frame.judged, ht]
      rfl
    · rw [if_neg (c := FrameType.process = .process ∧ mismatch) (fun h => hm h.2)]
      rw [State.processHeader_unprocessed (by exact (or_assoc.2 hcase).resolve_right hm)]
      simp only [Frame.judged, ht]
      rfl

/-- Settles O17: the decision is processed, and a processed header binds its frame. -/
theorem processedHeaderBindsActiveBank : Obligations.ProcessedHeaderBindsActiveBank := by
  intro f rest h s hp hd hj ht ha hg he hs bytes sent
  rw [exec_frameHeader_good hp hd hj, State.handOn, ht]
  dsimp only
  rw [State.processHeader_active (by exact ha) (he ▸ hg) (by exact hs) (by exact he), State.bindFrame_eq]
  simp only [Frame.judged, ht]
  rfl

/-- R121: what a unit restarted from its new row is. -/
theorem PulseGen.restart_eq (u : PulseGen) (row : Row) :
    u.restart row =
      if row.b0 ≠ 1 then
        { u with state := .off, period := 0, width := 0, outActive := false, restarted := false }
      else if u.nextPeriod = 0 then
        { u with
          state := .stopped, period := 0, width := u.nextWidth, outActive := false, restarted := false }
      else { u with
        state := .running 0, period := u.nextPeriod, width := u.nextWidth
        outActive := u.nextWidth != 0, restarted := true } := by
  simp only [PulseGen.restart, Row.unitEnabled, Bool.not_eq_true', beq_eq_false_iff_ne]
  rfl

/-- A switch touches the roles, the generations, the strobe-pending set, the force records, the owners, the settle
counts, the units and the Mode Controller. -/
theorem State.switchTo_frame (g : Byte) (s : State) :
    s.switchTo g = { s with
      banks := { s.banks with active := s.banks.active.other, gen := g, armed := none }
      store := { s.store with strobePending := none }
      pins := { s.pins with
        force := if s.banks.stagedBank.policy.permit then s.pins.force else Vector.replicate 24 none
        owner := (s.switchTo g).pins.owner }
      sampler := { s.sampler with settle := (s.switchTo g).sampler.settle }
      pg := switchPulse s.banks.activeBank s.banks.stagedBank s.pg
      cc := switchCounters s.banks.activeBank s.banks.stagedBank s.cc
      mc := switchMode s.banks.stagedBank.policy s.mc } := by
  dsimp only [State.switchTo, State.redecideWith]

/-- R71, R72: the pins after a switch. -/
theorem State.switchTo_pins (g : Byte) (s : State) (n : Pin) :
    (s.switchTo g).pins.owner[n] = (s.switchTo g).deciding n ∧
      (s.switchTo g).sampler.settle[n] =
        if (s.switchTo g).pins.owner[n] ≠ s.pins.owner[n] ∨
            s.banks.activeBank.pin[n].claimants ≠ s.banks.stagedBank.pin[n].claimants then
          s.banks.stagedBank.pin[n].settle else s.sampler.settle[n] := by
  rw [State.switchTo_eq, State.redecideWith_owner, State.redecideWith_settle, State.deciding_redecideWith]
  refine ⟨rfl, ?_⟩
  simp only [listDiffers, bne_iff_ne]
  rfl

theorem switchForce_getElem (policy : Row) (force : Vector (Option ForceState) 24) (n : Pin) :
    (if policy.permit then force else Vector.replicate 24 none)[n] = if policy.b5 = 1 then force[n] else none := by
  simp only [Row.permit, beq_iff_eq]
  split <;> simp

theorem switchPulse_getElem (old new : Bank) (pg : Vector PulseGen 4) (n : Unit4) :
    (switchPulse old new pg)[n] = if old.pgRow n = new.pgRow n then pg[n] else pg[n].restart (new.pgRow n) := by
  simp [switchPulse]

theorem switchCounters_getElem (old new : Bank) (cc : Vector CounterCapture 4) (n : Unit4) :
    (switchCounters old new cc)[n] = if old.ccRow n = new.ccRow n then cc[n] else ⟨0, 0, none⟩ := by
  simp [switchCounters, CounterCapture.cleared]

/-- Settles O18: the decision is the switch, after which the frame is bound to the new ACTIVE bank. -/
theorem armedHeaderSwitches : Obligations.ArmedHeaderSwitches := by
  intro f rest h s hp hd hj ht ha hg hs bytes sent old new
  have hframe := State.switchTo_frame h.gen (s.headerSent h f rest)
  have hpins := State.switchTo_pins h.gen (s.headerSent h f rest)
  rw [exec_frameHeader_good hp hd hj, State.handOn, ht]
  dsimp only
  rw [State.processHeader_armed (by exact ha) hg (by exact hs), State.bindFrame_eq]
  generalize (s.headerSent h f rest).switchTo h.gen = u at hframe hpins
  refine ⟨_, rfl, ?_⟩
  have hactive : u.banks.activeBank = new := by rw [hframe]; rfl
  have hstaged : u.banks.stagedBank = old := by
    rw [hframe]
    exact State.switched_stagedBank h.gen s
  refine ⟨hactive, hstaged, ?_, ?_, ?_, fun n => ⟨?_, (hpins n).1, (hpins n).2⟩, fun n => ⟨?_, ?_, ?_⟩, ?_, ?_⟩
  · rw [hframe]
    rfl
  · rw [hframe]
    rfl
  · rw [hframe]
    rfl
  · rw [hframe]
    exact switchForce_getElem new.policy s.pins.force n
  · intro hrow
    rw [hframe]
    exact (switchPulse_getElem old new s.pg n).trans (if_pos hrow)
  · intro hrow
    rw [hframe]
    exact ((switchPulse_getElem old new s.pg n).trans (if_neg hrow)).trans (PulseGen.restart_eq _ _)
  · rw [hframe]
    exact switchCounters_getElem old new s.cc n
  · rw [hframe]
    rfl
  · have hpolicy : u.policy = new.policy := congrArg Bank.policy hactive
    dsimp only
    rw [hactive, hpolicy]
    simp only [Frame.judged, ht]
    rw [hframe]
    rfl

end Sys2Proof.Machine
end

section
/-! SUPPORT. Frame ends that apply nothing, the requests of the Bank Unit and the short ones, the ends of the long
operations. -/

namespace Sys2Proof.Machine

/-! ### The frame end -/

/-- The end delimiter of a frame in passage ends it. -/
theorem exec_frameEnd {f : Frame} {s : State} (hp : s.passing f) :
    exec .frameEnd s = .next ((s.validLink false).endFrame f) := by
  obtain ⟨hh, hf⟩ := hp
  simp only [exec, execFrameEnd, hh, hf, Bool.false_eq_true, if_false]

/-- Verdicts that apply nothing: at most the frame-pending tier is emptied. -/
theorem deliverVerdict_nothing {f : Frame} {t : FrameType} {good : Bool}
    (h : good = false ∨ t = .strobe ∨ t = .process ∧ f.processed = false ∨ t = .address ∧ f.provisional = none)
    (s : State) : deliverVerdict f t good s = if t = .process then s.emptyPending else s := by
  cases t with
  | process =>
    have hn : ¬ (f.processed = true ∧ good = true) := by
      rintro ⟨hp, hg⟩
      simp [hp, hg] at h
    simp only [deliverVerdict, if_neg hn, if_true]
  | strobe => rfl
  | address =>
    cases good with
    | false => rfl
    | true =>
      have hn : f.provisional = none := by simpa using h
      simp only [deliverVerdict, takeAddress, hn, if_true]
      rw [if_neg nofun]

/-- Settles O27: the delimiter is put on the line and the frame closed; the verdict applies nothing. -/
theorem frameEndThatAppliesNothing : Obligations.FrameEndThatAppliesNothing := by
  intro f s hp hl ends emptied
  have hend : exec .frameEnd s = .next (State.endFrame f { s with link := { s.link with errorRun := 0 } }) := by
    rw [exec_frameEnd hp, State.validLink_up hl]
  refine ⟨fun ha => ?_, fun hb => ?_, fun t L hg => ?_⟩
  · refine hend.trans ?_
    rw [State.endFrame, ha]
    rfl
  · refine hend.trans ?_
    rw [State.endFrame, hb]
    rfl
  · intro good hn
    refine hend.trans ?_
    simp only [State.endFrame, hg]
    rw [deliverVerdict_nothing hn]
    cases t <;> rfl

/-! ### Requests -/

/-- R193: the length of a request counts its payload bytes. -/
theorem requestSize_eq_iff {rq : Request} {n : Byte} : requestSize rq = n.toNat ↔ rq.length = n :=
  BitVec.toNat_inj

theorem noPayload_refused {rq : Request} (h : rq.length ≠ 0) (perform : State → Answer × State) (s : State) :
    noPayload rq perform s = (.plain stBadLength 0, s) :=
  if_pos fun hz => h (requestSize_eq_iff.1 hz)

theorem noPayload_performed {rq : Request} (h : rq.length = 0) (perform : State → Answer × State) (s : State) :
    noPayload rq perform s = perform s :=
  if_neg (fun hn => hn (requestSize_eq_iff.2 h))

section
variable {f : Frame} {code : Byte} {rq : Request} {s u : State} {perform : State → Answer × State} {status flags : Byte}

/-- R156, cases 2 and 3: an execution that gives a plain answer is recorded and answered. -/
theorem State.withRequest_records (h : s.meetsIdle f code rq)
    (hp : perform s.countConsumed = (.plain status flags, u)) :
    s.withRequest code rq (replayable code rq perform) =
      State.recordAndAnswer f code rq (plainResponse rq code status flags) s.mc.address u :=
  State.withRequest_executes h perform _ u hp

/-- R156, case 4: an execution whose answer is not recorded is answered. -/
theorem State.withRequest_answers (h : s.meetsIdle f code rq)
    (hp : perform s.countConsumed = (⟨status, flags, [], false⟩, u)) :
    s.withRequest code rq (replayable code rq perform) =
      State.answerSegment f (requestBytes code rq) (plainResponse rq code status flags) s.mc.address u :=
  State.withRequest_executes h perform _ u hp

end

/-- What the checks of ARM let through starts, the rest is refused. -/
theorem armRequest_badLength {rq : Request} (h : rq.length ≠ 1) (s : State) :
    armRequest rq s = (.plain stBadLength 0, s) :=
  if_pos fun hz => h (requestSize_eq_iff.1 hz)

theorem armRequest_badGen {rq : Request} {s : State} (h : rq.length = 1)
    (hg : requestByte rq 0 = 0 ∨ requestByte rq 0 = s.banks.gen) : armRequest rq s = (.plain stBadGen 0, s) :=
  (if_neg (fun hn => hn (requestSize_eq_iff.2 h))).trans (if_pos hg)

theorem armRequest_started {rq : Request} {s : State} (h : rq.length = 1) (h0 : requestByte rq 0 ≠ 0)
    (hg : requestByte rq 0 ≠ s.banks.gen) :
    armRequest rq s = startLong (.validating (requestByte rq 0)) 0x21 rq s :=
  (if_neg (fun hn => hn (requestSize_eq_iff.2 h))).trans (if_neg (not_or.2 ⟨h0, hg⟩))

/-- R17, R19, R167: the start of a long operation, with the flag of R173 spelled out. -/
theorem startLong_eq (op : LongOp) (code : Byte) (rq : Request) (s : State) :
    startLong op code rq s =
      (⟨0x01, if s.banks.armed = none then 0 else 0x04, [], false⟩,
        { s with
          banks := { s.banks with armed := none, longOp := op }
          mx := { s.mx with slot := .working rq.tag code } }) := by
  rw [← disarmedFlag_eq]
  rfl

/-- Settles O39: a refusal is recorded and leaves the banks; a start is answered without a record. -/
theorem longRequestsStartOrAreRefused : Obligations.LongRequestsStartOrAreRefused := by
  intro f rq s counted refused started g
  refine ⟨fun hl hm => ?_, fun hl hm => ?_, fun hl hm => ?_, fun hl hg hm => ?_, fun hl h0 hg hm => ?_⟩
  · exact congrArg _ (State.withRequest_records hm (noPayload_refused hl _ _))
  · exact congrArg _ (State.withRequest_answers hm ((noPayload_performed hl _ _).trans (startLong_eq _ _ _ _)))
  · exact congrArg _ (State.withRequest_records hm (armRequest_badLength hl _))
  · exact congrArg _ (State.withRequest_records hm (armRequest_badGen hl hg))
  · exact congrArg _ (State.withRequest_answers hm 
      ((armRequest_started (s := s.countConsumed) hl h0 hg).trans (startLong_eq _ _ _ _)))

/-- R145: RESTART with none pending counts the frame ends on the line, this frame's own added. -/
theorem restartRequest_none {s : State} (h : s.mc.restart = none) :
    restartRequest s = (.plain stOk 0, { s with mc := { s.mc with
      restart := some (s.link.line.countP OutSym.isEnding + 1) } }) := by
  rw [restartRequest, h, Option.getD_none]

/-- R145: RESTART with one pending keeps its count (entry 16). -/
theorem restartRequest_pending {s : State} (h : s.mc.restart ≠ none) : restartRequest s = (.plain stOk 0, s) := by
  obtain ⟨n, hn⟩ := Option.ne_none_iff_exists'.1 h
  rw [restartRequest, hn, Option.getD_some, ← hn]

/-- Settles O40: each of the four is answered BAD_LENGTH with a payload, and else executed; all are recorded. -/
theorem shortRequestsExecute : Obligations.ShortRequestsExecute := by
  intro f rq s counted answers
  refine ⟨fun hl => ⟨?_, ?_, ?_, ?_⟩, fun hl => ⟨?_, fun hr => ?_, fun hr => ?_, ?_, ?_⟩⟩
  iterate 4 exact fun hm => congrArg _ (State.withRequest_records hm (noPayload_refused hl _ _))
  · intro hm
    refine congrArg _ (State.withRequest_records hm ?_)
    rw [noPayload_performed hl, disarmedFlag_eq]
    rfl
  · exact fun hm => congrArg _ (State.withRequest_records hm
      ((noPayload_performed hl _ _).trans (restartRequest_none (by exact hr))))
  · exact fun hm => congrArg _ (State.withRequest_records hm
      ((noPayload_performed hl _ _).trans (restartRequest_pending (by exact hr))))
  all_goals
    intro hm
    refine congrArg _ (State.withRequest_records hm ?_)
    rw [noPayload_performed hl]
    rfl

/-! ### The long operations -/

section
variable {tag code : Byte} {s : State}

/-- R18, R160. -/
theorem exec_cloneComplete (hh : s.held = false) (hw : s.mx.slot = .working tag code) (hl : s.banks.longOp = .cloning) :
    exec .cloneComplete s = .next (s.cloneDone.finishLong tag code stOk []) := by
  simp only [exec, execCloneComplete, hh, hl, hw, Bool.false_eq_true, if_false]

/-- R20, R160: the STAGED bank has passed. -/
theorem exec_validationComplete_valid {g : Byte} (hh : s.held = false) (hw : s.mx.slot = .working tag code)
    (hl : s.banks.longOp = .validating g) (hv : validate s.banks.stagedBank = none) :
    exec .validationComplete s = .next ((s.armDone (some g)).finishLong tag code stOk [g]) := by
  simp only [exec, execValidationComplete, hh, hl, hw, hv, Bool.false_eq_true, if_false]

/-- R20, R168: the STAGED bank has failed. -/
theorem exec_validationComplete_invalid {g : Byte} {i : Invalid} (hh : s.held = false)
    (hw : s.mx.slot = .working tag code) (hl : s.banks.longOp = .validating g)
    (hv : validate s.banks.stagedBank = some i) :
    exec .validationComplete s = .next ((s.armDone none).finishLong tag code stInvalid
      [i.table.code, BitVec.ofNat 8 i.row, i.reason.code]) := by
  simp only [exec, execValidationComplete, hh, hl, hw, hv, Bool.false_eq_true, if_false]

end

/-- Settles O44. -/
theorem longOperationsComplete : Obligations.LongOperationsComplete := by
  intro tag code s hh hw completes
  refine ⟨fun hl => ⟨{ s.banks.setStaged s.banks.activeBank with longOp := .idle }, ?_, ?_⟩,
    fun g hl => ⟨fun hv => ?_, fun i hv => ?_⟩⟩
  · exact exec_cloneComplete hh hw hl
  · exact ⟨BankUnit.stagedBank_setStaged _ _, BankUnit.activeBank_setStaged _ _, BankUnit.active_setStaged _ _,
      BankUnit.gen_setStaged _ _, BankUnit.armed_setStaged _ _, rfl⟩
  · exact exec_validationComplete_valid hh hw hl hv
  · exact exec_validationComplete_invalid hh hw hl hv

end Sys2Proof.Machine
end

section
/-! SUPPORT. The validation of a bank: what each check of a row says, and which failure is reported. -/

namespace Sys2Proof.Machine

/-! ### The rows of a table in order -/

section
variable {n : Nat} {rows : Vector Row n} {check : List Row → Nat → Row → Option Reason} {fails : Fin n → Reason → Prop}

/-- The rows before row `i`. -/
theorem mem_rowsBefore {i : Fin n} {e : Row} : e ∈ rows.toList.take i.val ↔ ∃ j < i, rows[j] = e := by
  rw [List.mem_take_iff_getElem]
  constructor
  · rintro ⟨k, hk, rfl⟩
    have hki : k < i.val := by omega
    exact ⟨⟨k, by omega⟩, hki, by simp⟩
  · rintro ⟨j, hj, rfl⟩
    exact ⟨j.val, by have := j.isLt; have : j.val < i.val := hj; simp; omega, by simp⟩

theorem check_eq_none_iff
    (h : ∀ (i : Fin n) (w : Reason), check (rows.toList.take i.val) i.val rows[i] = some w ↔ fails i w) (i : Fin n) :
    check (rows.toList.take i.val) i.val rows[i] = none ↔ ∀ w, ¬ fails i w := by
  simp only [Option.eq_none_iff_forall_ne_some, ne_eq, h]

/-- The rows of a table. -/
theorem mem_rows {e : Row} : e ∈ rows.toList ↔ ∃ j : Fin n, rows[j] = e := by
  rw [Vector.mem_toList_iff, Vector.mem_iff_getElem]
  exact ⟨fun ⟨k, hk, h⟩ => ⟨⟨k, hk⟩, h⟩, fun ⟨j, h⟩ => ⟨j.val, j.isLt, h⟩⟩

/-- A table fails at row `i` when that row fails and none before it does. -/
theorem firstBad_rows_eq_some
    (h : ∀ (i : Fin n) (w : Reason), check (rows.toList.take i.val) i.val rows[i] = some w ↔ fails i w)
    {i : Fin n} {w : Reason} :
    firstBad check [] 0 rows.toList = some (i.val, w) ↔ fails i w ∧ ∀ j < i, ∀ v, ¬ fails j v := by
  rw [firstBad_eq_some]
  simp only [List.nil_append, Nat.zero_add, Vector.getElem_toList, Vector.length_toList]
  constructor
  · rintro ⟨j, _, hij, hc, hb⟩
    subst hij
    exact ⟨(h i w).1 hc, fun k hk => (check_eq_none_iff h k).1 (hb k.val hk)⟩
  · rintro ⟨hf, hb⟩
    exact ⟨i.val, i.isLt, rfl, (h i w).2 hf, fun j hj =>
      (check_eq_none_iff h ⟨j, Nat.lt_trans hj i.isLt⟩).2 (hb ⟨j, Nat.lt_trans hj i.isLt⟩ hj)⟩

/-- A table passes when no row fails. -/
theorem firstBad_rows_eq_none
    (h : ∀ (i : Fin n) (w : Reason), check (rows.toList.take i.val) i.val rows[i] = some w ↔ fails i w) :
    firstBad check [] 0 rows.toList = none ↔ ∀ i w, ¬ fails i w := by
  rw [firstBad_eq_none]
  simp only [List.nil_append, Nat.zero_add, Vector.getElem_toList, Vector.length_toList]
  exact ⟨fun hb i => (check_eq_none_iff h i).1 (hb i.val i.isLt),
    fun hb j hj => (check_eq_none_iff h ⟨j, hj⟩).2 (hb ⟨j, hj⟩)⟩

end

section
variable {p q r t : Prop} [Decidable p] [Decidable q] [Decidable r] [Decidable t] {v₁ v₂ v₃ v₄ w : Reason}

/-- A failing check gives its reason; otherwise the later checks decide. -/
theorem ite_some_eq_some {later : Option Reason} :
    (if p then some v₁ else later) = some w ↔ (w = v₁ ∧ p) ∨ (¬ p ∧ later = some w) := by
  split
  · rename_i h
    simp [h, eq_comm]
  · rename_i h
    simp [h]

/-- Of three checks the first that fails gives the reason. -/
theorem firstOfThree_eq_some :
    (if p then some v₁ else if q then some v₂ else if r then some v₃ else none) = some w ↔
      (w = v₁ ∧ p) ∨ (w = v₂ ∧ ¬ p ∧ q) ∨ (w = v₃ ∧ ¬ p ∧ ¬ q ∧ r) := by
  simp only [ite_some_eq_some, reduceCtorEq, and_false, or_false, and_or_left, and_left_comm]

/-- Of four checks the first that fails gives the reason. -/
theorem firstOfFour_eq_some :
    (if p then some v₁ else if q then some v₂ else if r then some v₃ else if t then some v₄ else none) = some w ↔
      (w = v₁ ∧ p) ∨ (w = v₂ ∧ ¬ p ∧ q) ∨ (w = v₃ ∧ ¬ p ∧ ¬ q ∧ r) ∨ (w = v₄ ∧ ¬ p ∧ ¬ q ∧ ¬ r ∧ t) := by
  simp only [ite_some_eq_some, reduceCtorEq, and_false, or_false, and_or_left, and_left_comm]

end

/-! ### The policy row and the function rows -/

theorem policyBad_iff {b : Bank} : policyBad b.policy = true ↔ b.PolicyFails := by
  have zero : ∀ x : Byte, x.toNat = 0 ↔ x = 0 := fun x => BitVec.toNat_inj (y := 0)
  simp [policyBad, Bank.PolicyFails, Row.timeout, Row.divisor, le16_toNat, Nat.mul_eq_zero, zero, or_assoc]

theorem funcCheck_iff {b : Bank} (earlier : List Row) (i : Fin 8) (w : Reason) :
    funcCheck earlier i.val b.func[i] = some w ↔ w = .badValue ∧ b.FuncFails i := by
  have hbad : funcBad i.val b.func[i] = true ↔ b.FuncFails i := by
    unfold funcBad Bank.FuncFails
    by_cases hi : i.val < 4
    · simp [hi, or_assoc, show i.val ≤ 3 by omega, show ¬ 4 ≤ i.val by omega]
    · simp [hi, or_assoc, show ¬ i.val ≤ 3 by omega, show 4 ≤ i.val by omega]
  unfold funcCheck
  split
  · rename_i h
    simp [hbad.1 h, eq_comm]
  · rename_i h
    exact iff_of_false nofun fun hf => h (hbad.2 hf.2)

/-! ### The pin rows -/

/-- R23, check 1. -/
theorem pinBadValue_iff {r : Row} : pinBadValue r = true ↔ (∃ c ∈ r.claimants, 10 < c.toNat) ∨ 3 < r.b3.toNat ∨
    3 < r.b4.toNat ∨ 15 < r.b5.toNat ∨ 15 < r.b6.toNat ∨ 2 < r.b7.toNat := by
  simp [pinBadValue, Row.claimants, or_assoc]

/-- R23, check 2. -/
theorem pinDuplicate_iff {r : Row} : pinDuplicate r = true ↔ ∃ c : Byte, c ≠ 0 ∧ 1 < r.claimants.count c := by
  simp only [pinDuplicate, Row.claimants, List.count_cons, List.count_nil, Bool.or_eq_true, Bool.and_eq_true,
    bne_iff_ne, beq_iff_eq]
  constructor
  · rintro (⟨h0, h | h⟩ | ⟨h0, h⟩)
    · exact ⟨r.b0, h0, by simp only [h, if_true]; omega⟩
    · exact ⟨r.b0, h0, by simp only [h, if_true]; omega⟩
    · exact ⟨r.b1, h0, by simp only [h, if_true]; omega⟩
  · rintro ⟨c, hc, hcount⟩
    by_cases h0 : r.b0 = c <;> by_cases h1 : r.b1 = c <;> by_cases h2 : r.b2 = c <;> simp_all

/-- R23, check 3. -/
theorem pinMultiplaced_iff {earlier : List Row} {r : Row} : pinMultiplaced earlier r = true ↔
    ∃ e ∈ earlier, ∃ c : Byte, 2 ≤ c.toNat ∧ c.toNat ≤ 9 ∧ c ∈ e.claimants ∧ c ∈ r.claimants := by
  simp only [pinMultiplaced, List.any_eq_true, Bool.and_eq_true, isUnitCode, decide_eq_true_eq, Row.names,
    List.contains_iff_mem]
  constructor
  · rintro ⟨c, hr, ⟨h2, h9⟩, e, he, hc⟩
    exact ⟨e, he, c, h2, h9, hc, hr⟩
  · rintro ⟨e, he, c, h2, h9, hc, hr⟩
    exact ⟨c, hr, ⟨h2, h9⟩, e, he, hc⟩

theorem pinCheck_iff {b : Bank} (n : Pin) (w : Reason) :
    pinCheck (b.pin.toList.take n.val) n.val b.pin[n] = some w ↔ b.PinFails n w := by
  unfold pinCheck pinRowReason Bank.PinFails
  have hm : pinMultiplaced (b.pin.toList.take n.val) b.pin[n] = true ↔
      ∃ m < n, ∃ c : Byte, 2 ≤ c.toNat ∧ c.toNat ≤ 9 ∧ c ∈ b.pin[m].claimants ∧ c ∈ b.pin[n].claimants := by
    rw [pinMultiplaced_iff]
    constructor
    · rintro ⟨e, he, hc⟩
      obtain ⟨m, hmn, rfl⟩ := mem_rowsBefore.1 he
      exact ⟨m, hmn, hc⟩
    · rintro ⟨m, hmn, hc⟩
      exact ⟨_, mem_rowsBefore.2 ⟨m, hmn, rfl⟩, hc⟩
  dsimp only
  rw [← pinBadValue_iff, ← pinDuplicate_iff, ← hm]
  exact firstOfThree_eq_some

/-! ### The placement of the units -/

theorem unplaced_iff {b : Bank} {u : Fin 8} :
    (b.func[u].unitEnabled && !(b.pin.toList.any fun r => r.names (BitVec.ofNat 8 (2 + u.val)))) = true ↔
      b.Unplaced u := by
  simp only [Bank.Unplaced, Row.unitEnabled, Bool.and_eq_true, beq_iff_eq, Bool.not_eq_true', List.any_eq_false,
    Row.names, List.contains_iff_mem]
  refine and_congr_right fun _ => ⟨fun h n => h _ (mem_rows.2 ⟨n, rfl⟩), fun h r hr => ?_⟩
  obtain ⟨n, rfl⟩ := mem_rows.1 hr
  exact h n

theorem find?_finRange_eq_some {n : Nat} {p : Fin n → Bool} {u : Fin n} :
    (List.finRange n).find? p = some u ↔ p u = true ∧ ∀ v < u, ¬ p v = true := by
  simp only [List.find?_eq_some_iff_getElem, List.getElem_finRange, Bool.not_eq_true', Bool.not_eq_true]
  refine and_congr_right fun _ => ⟨?_, fun h => ?_⟩
  · rintro ⟨i, hi, rfl, h⟩ v hv
    exact h v.val hv
  · exact ⟨u.val, by simp, rfl, fun j hj => h ⟨j, Nat.lt_trans hj u.isLt⟩ hj⟩

theorem firstUnplaced_eq_some {b : Bank} {u : Fin 8} :
    firstUnplaced b = some u.val ↔ b.Unplaced u ∧ ∀ v < u, ¬ b.Unplaced v := by
  rw [firstUnplaced, Option.map_eq_some_iff]
  simp only [Fin.val_inj, exists_eq_right, find?_finRange_eq_some, unplaced_iff]

theorem firstUnplaced_eq_none {b : Bank} : firstUnplaced b = none ↔ ∀ u, ¬ b.Unplaced u := by
  rw [firstUnplaced, Option.map_eq_none_iff]
  simp only [List.find?_eq_none, List.mem_finRange, forall_const, unplaced_iff]

/-! ### The slot rows -/

theorem slotBadValue_iff {r : Row} : slotBadValue r = true ↔
    r.chan = none ∨ ∃ c, r.chan = some c ∧
      (c.instances ≤ r.b1.toNat ∨ (c = .evblk ∧ (r.count = 0 ∨ 8 < r.count)) ∨ (c ≠ .evblk ∧ r.count ≠ 0) ∨
        r.b5 ≠ 0 ∨ r.b6 ≠ 0 ∨ r.b7 ≠ 0) := by
  unfold slotBadValue
  cases hc : r.chan with
  | none => simp
  | some c =>
    have hcount : r.b4 = 0#8 ↔ r.count = 0 := (BitVec.toNat_inj (x := r.b4) (y := 0)).symm
    by_cases he : c = .evblk
    · simp [he, or_assoc]
    · simp [he, hcount, or_assoc]

theorem slotDuplicates_iff {r e : Row} : slotDuplicates r e = true ↔
    ∃ c, r.chan = some c ∧ e.chan = some c ∧ ((c.isIn = false ∧ r.b1 = e.b1) ∨ c = .evblk ∨ c = .evack) := by
  unfold slotDuplicates
  split
  · rename_i c d hr he
    simp only [hr, he, Bool.and_eq_true, Bool.or_eq_true, Bool.not_eq_true', beq_iff_eq, Option.some.injEq, or_assoc]
    constructor
    · rintro ⟨rfl, h⟩
      exact ⟨c, rfl, rfl, h⟩
    · rintro ⟨_, rfl, rfl, h⟩
      exact ⟨rfl, h⟩
  · rename_i h
    simp only [Bool.false_eq_true, false_iff]
    rintro ⟨c, hr, he, -⟩
    exact h c c hr he

/-- Table 1-6: every IN channel covers at least one byte. -/
theorem Row.width_pos {r : Row} {c : Chan} (hr : r.chan = some c) (hc : c.isIn = true) : 0 < r.width := by
  simp only [Row.width, hr]
  cases c <;> simp only [Chan.isIn, Chan.width, Bool.false_eq_true] at hc ⊢ <;> omega

theorem slotOverlaps_iff {r e : Row} : slotOverlaps r e = true ↔
    ∃ c d, r.chan = some c ∧ e.chan = some d ∧ c.isIn = true ∧ d.isIn = true ∧
      ∃ k, r.offset ≤ k ∧ k < r.offset + r.width ∧ e.offset ≤ k ∧ k < e.offset + e.width := by
  unfold slotOverlaps
  split
  · rename_i c d hr he
    simp only [Bool.and_eq_true, decide_eq_true_eq]
    constructor
    · rintro ⟨⟨⟨hc, hd⟩, h1⟩, h2⟩
      have := Row.width_pos hr hc
      have := Row.width_pos he hd
      exact ⟨c, d, hr, he, hc, hd, max r.offset e.offset, by omega, by omega, by omega, by omega⟩
    · rintro ⟨c', d', hr', he', hc, hd, k, h1, h2, h3, h4⟩
      obtain rfl := Option.some.inj (hr.symm.trans hr')
      obtain rfl := Option.some.inj (he.symm.trans he')
      exact ⟨⟨⟨hc, hd⟩, by omega⟩, by omega⟩
  · rename_i h
    simp only [Bool.false_eq_true, false_iff]
    rintro ⟨c, d, hr, he, -⟩
    exact h c d hr he

/-- A row with a channel is enabled. -/
theorem Row.slotEnabled_of_chan {r : Row} {c : Chan} (h : r.chan = some c) : r.slotEnabled = true := by
  simp only [Row.slotEnabled, bne_iff_ne]
  rintro h0
  rw [Row.chan, h0] at h
  cases h

/-- A check that needs a channel of the earlier row may leave out that only enabled rows are compared with. -/
theorem any_enabledBefore {b : Bank} {i : Fin 32} {p : Row → Bool} (hp : ∀ e, p e = true → e.slotEnabled = true) :
    ((b.slot.toList.take i.val).filter Row.slotEnabled).any p = true ↔ ∃ j < i, p b.slot[j] = true := by
  simp only [List.any_eq_true, List.mem_filter]
  constructor
  · rintro ⟨e, ⟨he, -⟩, hpe⟩
    obtain ⟨j, hj, rfl⟩ := mem_rowsBefore.1 he
    exact ⟨j, hj, hpe⟩
  · rintro ⟨j, hj, hpe⟩
    exact ⟨_, ⟨mem_rowsBefore.2 ⟨j, hj, rfl⟩, hp _ hpe⟩, hpe⟩

theorem slotCheck_iff {b : Bank} (i : Fin 32) (w : Reason) :
    slotCheck (b.slot.toList.take i.val) i.val b.slot[i] = some w ↔ b.SlotFails i w := by
  have hd : ((b.slot.toList.take i.val).filter Row.slotEnabled).any (slotDuplicates b.slot[i]) = true ↔
      ∃ j < i, ∃ c, b.slot[i].chan = some c ∧ b.slot[j].chan = some c ∧
        ((c.isIn = false ∧ b.slot[i].b1 = b.slot[j].b1) ∨ c = .evblk ∨ c = .evack) := by
    rw [any_enabledBefore]
    · simp only [slotDuplicates_iff]
    · intro e he
      obtain ⟨c, -, hc, -⟩ := slotDuplicates_iff.1 he
      exact Row.slotEnabled_of_chan hc
  have ho : ((b.slot.toList.take i.val).filter Row.slotEnabled).any (slotOverlaps b.slot[i]) = true ↔
      ∃ j < i, ∃ c d, b.slot[i].chan = some c ∧ b.slot[j].chan = some d ∧ c.isIn = true ∧ d.isIn = true ∧
        ∃ k, b.slot[i].offset ≤ k ∧ k < b.slot[i].offset + b.slot[i].width ∧
          b.slot[j].offset ≤ k ∧ k < b.slot[j].offset + b.slot[j].width := by
    rw [any_enabledBefore]
    · simp only [slotOverlaps_iff]
    · intro e he
      obtain ⟨c, d, -, hc, -⟩ := slotOverlaps_iff.1 he
      exact Row.slotEnabled_of_chan hc
  have he : b.slot[i].slotEnabled = true ↔ b.slot[i].b0 ≠ 0 := bne_iff_ne
  unfold slotCheck slotRowReason Bank.SlotFails
  dsimp only
  rw [← slotBadValue_iff, ← hd, ← ho, ← he]
  split
  · rename_i henabled
    rw [firstOfFour_eq_some, Config.maxImage]
    exact (and_iff_right henabled).symm
  · rename_i hdisabled
    exact iff_of_false nofun fun h => hdisabled h.1

/-! ### The tables -/

section
variable {b : Bank}

theorem funcRows_eq_some {i : Fin 8} :
    firstBad funcCheck [] 0 b.func.toList = some (i.val, .badValue) ↔
      b.FuncFails i ∧ ∀ j < i, ¬ b.FuncFails j := by
  rw [firstBad_rows_eq_some fun i w => funcCheck_iff _ i w]
  simp

theorem funcRows_eq_none : firstBad funcCheck [] 0 b.func.toList = none ↔ ¬ ∃ i, b.FuncFails i := by
  rw [firstBad_rows_eq_none fun i w => funcCheck_iff _ i w]
  simp

/-- R22 has one reason. -/
theorem funcRows_reason {i : Nat} {w : Reason} (h : firstBad funcCheck [] 0 b.func.toList = some (i, w)) :
    w = .badValue := by
  obtain ⟨j, hj, -, hc, -⟩ := (firstBad_eq_some _ _ _ _ _).1 h
  unfold funcCheck at hc
  split at hc
  · exact (Option.some.inj hc).symm
  · cases hc

theorem pinRows_eq_some {n : Pin} {w : Reason} :
    firstBad pinCheck [] 0 b.pin.toList = some (n.val, w) ↔ b.PinFails n w ∧ ∀ m < n, ∀ v, ¬ b.PinFails m v :=
  firstBad_rows_eq_some pinCheck_iff

theorem pinRows_eq_none : firstBad pinCheck [] 0 b.pin.toList = none ↔ ¬ ∃ n w, b.PinFails n w := by
  rw [firstBad_rows_eq_none pinCheck_iff]
  simp

theorem slotRows_eq_some {i : Fin 32} {w : Reason} :
    firstBad slotCheck [] 0 b.slot.toList = some (i.val, w) ↔ b.SlotFails i w ∧ ∀ j < i, ∀ v, ¬ b.SlotFails j v :=
  firstBad_rows_eq_some slotCheck_iff

theorem slotRows_eq_none : firstBad slotCheck [] 0 b.slot.toList = none ↔ ¬ ∃ i w, b.SlotFails i w := by
  rw [firstBad_rows_eq_none slotCheck_iff]
  simp

theorem unplaced_eq_none : firstUnplaced b = none ↔ ¬ ∃ u, b.Unplaced u := by
  rw [firstUnplaced_eq_none, not_exists]

/-! ### The bank -/

theorem exists_pair_eq_iff {i : Nat} {w : Reason} {P : Nat → Reason → Prop} :
    (∃ j r, (i = j ∧ w = r) ∧ P j r) ↔ P i w :=
  ⟨fun ⟨_, _, ⟨hi, hw⟩, h⟩ => hi ▸ hw ▸ h, fun h => ⟨i, w, ⟨rfl, rfl⟩, h⟩⟩

/-- R20: the failure reported is that of the first part that fails, in validation order. -/
theorem validate_eq_some {v : Invalid} : validate b = some v ↔
    (b.PolicyFails ∧ v = ⟨.policy, 0, .badValue⟩) ∨
    (¬ b.PolicyFails ∧ ∃ i w, firstBad funcCheck [] 0 b.func.toList = some (i, w) ∧ v = ⟨.func, i, w⟩) ∨
    (¬ b.PolicyFails ∧ (¬ ∃ i, b.FuncFails i) ∧
      ∃ i w, firstBad pinCheck [] 0 b.pin.toList = some (i, w) ∧ v = ⟨.pin, i, w⟩) ∨
    (¬ b.PolicyFails ∧ (¬ ∃ i, b.FuncFails i) ∧ (¬ ∃ n w, b.PinFails n w) ∧
      ∃ i, firstUnplaced b = some i ∧ v = ⟨.func, i, .unplaced⟩) ∨
    (¬ b.PolicyFails ∧ (¬ ∃ i, b.FuncFails i) ∧ (¬ ∃ n w, b.PinFails n w) ∧ (¬ ∃ u, b.Unplaced u) ∧
      ∃ i w, firstBad slotCheck [] 0 b.slot.toList = some (i, w) ∧ v = ⟨.slot, i, w⟩) := by
  rw [← funcRows_eq_none, ← pinRows_eq_none, ← unplaced_eq_none, ← policyBad_iff]
  unfold validate
  cases policyBad b.policy with
  | true => simp [eq_comm]
  | false =>
    cases firstBad funcCheck [] 0 b.func.toList with
    | some x =>
      obtain ⟨i, w⟩ := x
      simp [exists_pair_eq_iff, eq_comm]
    | none =>
      cases firstBad pinCheck [] 0 b.pin.toList with
      | some x =>
        obtain ⟨i, w⟩ := x
        simp [exists_pair_eq_iff, eq_comm]
      | none =>
        cases firstUnplaced b with
        | some i => simp [eq_comm]
        | none =>
          cases firstBad slotCheck [] 0 b.slot.toList with
          | some x =>
            obtain ⟨i, w⟩ := x
            simp [exists_pair_eq_iff, eq_comm]
          | none => simp

theorem validate_eq_policy : validate b = some ⟨.policy, 0, .badValue⟩ ↔ b.PolicyFails := by
  simp [validate_eq_some]

theorem validate_eq_func {i : Nat} : validate b = some ⟨.func, i, .badValue⟩ ↔
    ¬ b.PolicyFails ∧ firstBad funcCheck [] 0 b.func.toList = some (i, .badValue) := by
  simp [validate_eq_some]

theorem validate_eq_pin {i : Nat} {w : Reason} : validate b = some ⟨.pin, i, w⟩ ↔
    ¬ b.PolicyFails ∧ (¬ ∃ i, b.FuncFails i) ∧ firstBad pinCheck [] 0 b.pin.toList = some (i, w) := by
  simp [validate_eq_some]

theorem validate_eq_unplaced {i : Nat} : validate b = some ⟨.func, i, .unplaced⟩ ↔
    ¬ b.PolicyFails ∧ (¬ ∃ i, b.FuncFails i) ∧ (¬ ∃ n w, b.PinFails n w) ∧ firstUnplaced b = some i := by
  have hf : firstBad funcCheck [] 0 b.func.toList ≠ some (i, .unplaced) := fun h => nomatch funcRows_reason h
  simp [validate_eq_some, hf]

theorem validate_eq_slot {i : Nat} {w : Reason} : validate b = some ⟨.slot, i, w⟩ ↔
    ¬ b.PolicyFails ∧ (¬ ∃ i, b.FuncFails i) ∧ (¬ ∃ n w, b.PinFails n w) ∧ (¬ ∃ u, b.Unplaced u) ∧
      firstBad slotCheck [] 0 b.slot.toList = some (i, w) := by
  simp [validate_eq_some]

end

/-- Settles O45: the policy row comes first, then the function rows in order. -/
theorem policyAndFunctionRowsValidated : Obligations.PolicyAndFunctionRowsValidated := by
  intro b p policyFails rowFails
  refine ⟨validate_eq_policy, fun i => ?_⟩
  rw [validate_eq_func, funcRows_eq_some]
  rfl

/-- Settles O46: each part is examined once all before it have passed, and its first failing row is reported. -/
theorem pinAndSlotRowsValidated : Obligations.PinAndSlotRowsValidated := by
  intro b early pinsFail unplaced slotsFail
  have hearly : ¬ early ↔ ¬ b.PolicyFails ∧ ¬ ∃ i, b.FuncFails i := not_or
  refine ⟨?_, fun n w => ?_, fun u => ?_, fun i w => ?_⟩
  · rw [hearly, validate_eq_none, ← Bool.not_eq_true, policyBad_iff, funcRows_eq_none, pinRows_eq_none,
      unplaced_eq_none, slotRows_eq_none, and_assoc]
  · rw [hearly, validate_eq_pin, pinRows_eq_some, and_assoc]
  · rw [hearly, validate_eq_unplaced, firstUnplaced_eq_some, and_assoc]
  · rw [hearly, validate_eq_slot, slotRows_eq_some, and_assoc]

end Sys2Proof.Machine
end

section
/-! SUPPORT. The image of a frame in passage: OUT values captured, IN values taken, the bytes that leave. -/

namespace Sys2Proof.Machine

/-! ### Slot rows -/

section
variable {r : Row} {c : Chan} {L : Nat}

theorem Row.width_of_chan (h : r.chan = some c) : r.width = c.width r.count := by
  simp only [Row.width, h]

theorem Row.outWithin_iff (h : r.chan = some c) :
    r.outWithin L = true ↔ c.isIn = false ∧ r.offset + c.width r.count ≤ L := by
  simp [Row.outWithin, Row.fits, Row.width, h]

theorem Row.inWithin_iff (h : r.chan = some c) :
    r.inWithin L = true ↔ c.isIn = true ∧ r.offset + c.width r.count ≤ L := by
  simp [Row.inWithin, Row.fits, Row.width, h]

/-- An IN entry within the image lies within it. -/
theorem Row.fits_of_inWithin (h : r.inWithin L = true) : r.offset + r.width ≤ L := by
  unfold Row.inWithin at h
  split at h
  · cases h
  · simp only [Row.fits, Bool.and_eq_true, decide_eq_true_eq] at h
    exact h.2

end

/-- Table 1-6: the unit that an entry names by its number. -/
theorem unit_ofNat_toNat (n : Unit4) : Fin.ofNat 4 (BitVec.ofNat 8 n.val).toNat = n := by
  revert n
  decide

theorem Frame.imageLength_eq {f : Frame} {L : Nat} (hh : f.header = .good .process L) (hp : f.processed = true) :
    f.imageLength = some L := by
  simp only [Frame.imageLength, hh, hp, if_true]

/-! ### Captures -/

/-- R39: the byte of image position `offset + k` as it arrived; an error symbol counts as 0x00, as does one that has
not arrived. -/
theorem capturedBytes_getD {f : Frame} {r : Row} {k : Nat} (hk : k < r.width) :
    (capturedBytes f r).getD k 0 = Sym.value (f.arrived.getD (48 + r.offset + k) .error) := by
  simp only [capturedBytes, List.getD_eq_getElem?_getD, List.getElem?_map, List.getElem?_take, List.getElem?_drop, hk,
    if_true]
  cases f.arrived[48 + r.offset + k]? <;> rfl

/-- R39: the capture of an OUT entry `r` within the image whose last byte has passed. -/
theorem exec_outCapture {f : Frame} {row : Fin 32} {L : Nat} {s : State} {r : Row} {c : Chan} (hp : s.passing f)
    (hf : f.processed = true) (hh : f.header = .good .process L) (hr : s.boundRow f row = r) (hc : r.chan = some c)
    (ho : c.isIn = false) (hL : r.offset + c.width r.count ≤ L)
    (hl : 48 + r.offset + c.width r.count ≤ f.arrived.length) :
    exec (.outCapture row) s = .next { s with store := { s.store with
      framePending := s.store.framePending.place c r.b1 (capturedBytes f r) } } := by
  obtain ⟨hheld, hframe⟩ := hp
  have hdue : captureDue f r L = true := by
    simp only [captureDue, (Row.outWithin_iff hc).2 ⟨ho, hL⟩, Row.width_of_chan hc, hl, decide_true, Bool.and_self]
  simp only [exec, execOutCapture, hheld, hframe, Frame.imageLength_eq hh hf, hr, hdue, State.capture, hc,
    Bool.false_eq_true, if_false, if_true]

/-! The value an OUT channel's bytes give, least significant first (R191). -/

section
variable (p : FramePending) (inst : Byte) (n : Unit4) (bs : List Byte)

theorem FramePending.place_dout : p.place .dout inst bs =
    { p with dout := some (bs.getD 2 0 ++ bs.getD 1 0 ++ bs.getD 0 0) } := rfl

theorem FramePending.place_pgset : p.place .pgset (BitVec.ofNat 8 n.val) bs =
    { p with pgset := p.pgset.set n (some ⟨bs.getD 1 0 ++ bs.getD 0 0, bs.getD 3 0 ++ bs.getD 2 0⟩) } := by
  simp only [FramePending.place, unit_ofNat_toNat, le16]

theorem FramePending.place_ccctl : p.place .ccctl (BitVec.ofNat 8 n.val) bs =
    { p with ccctl := p.ccctl.set n (some (bs.getD 0 0)) } := by
  simp only [FramePending.place, unit_ofNat_toNat]

theorem FramePending.place_evack : p.place .evack inst bs =
    { p with evack := some (bs.getD 1 0 ++ bs.getD 0 0) } := rfl

end

/-- Settles O21: the bytes captured are those of the positions the entry covers, and the value is placed by the channel
and the unit of its row. -/
theorem outCapturePlacesValue : Obligations.OutCapturePlacesValue := by
  intro f row L s hp hf hh r p v captures
  have captured : ∀ {c : Chan} {q : FramePending}, r.chan = some c → c.isIn = false →
      p.place c r.b1 (capturedBytes f r) = q → captures (c.width r.count) q :=
    fun hc ho hq hL hl => hq ▸ exec_outCapture hp hf hh rfl hc ho hL hl
  have byte : ∀ {w : Nat}, r.width = w → ∀ k < w, (capturedBytes f r).getD k 0 = v k :=
    fun hw k hk => capturedBytes_getD (hw ▸ hk)
  refine ⟨fun h0 => ?_, fun n h0 h1 => ?_, fun n h0 h1 => ?_, fun h0 => ?_⟩
  · have hc : r.chan = some .dout := congrArg Chan.ofCode h0
    have hw : r.width = 3 := Row.width_of_chan hc
    refine captured hc rfl ?_
    rw [FramePending.place_dout, byte hw 0 (by decide), byte hw 1 (by decide), byte hw 2 (by decide)]
  · have hc : r.chan = some .pgset := congrArg Chan.ofCode h0
    have hw : r.width = 4 := Row.width_of_chan hc
    refine captured hc rfl ?_
    rw [h1, FramePending.place_pgset, byte hw 0 (by decide), byte hw 1 (by decide), byte hw 2 (by decide),
      byte hw 3 (by decide)]
  · have hc : r.chan = some .ccctl := congrArg Chan.ofCode h0
    have hw : r.width = 1 := Row.width_of_chan hc
    refine captured hc rfl ?_
    rw [h1, FramePending.place_ccctl, byte hw 0 (by decide)]
  · have hc : r.chan = some .evack := congrArg Chan.ofCode h0
    have hw : r.width = 2 := Row.width_of_chan hc
    refine captured hc rfl ?_
    rw [FramePending.place_evack, byte hw 0 (by decide), byte hw 1 (by decide)]

/-! ### Status bytes -/

/-- R194: the mode and the fallback cause in one byte. -/
theorem modeCauseByte_eq (mc : ModeController) :
    modeCauseByte mc = BitVec.ofNat 8 (mc.mode.code.toNat + 16 * mc.cause.code.toNat) := by
  unfold modeCauseByte
  cases mc.mode <;> cases mc.cause <;> rfl

/-- Four flags of a byte as a number. -/
theorem flagBits_eq (a b c d : Bool) :
    flagBit 0 a ||| flagBit 1 b ||| flagBit 2 c ||| flagBit 3 d =
      BitVec.ofNat 8 (a.toNat + 2 * b.toNat + 4 * c.toNat + 8 * d.toNat) := by
  revert a b c d
  decide

theorem forceCount_bne_zero (p : PinResolver) : (forceCount p != 0) = p.force.toList.any Option.isSome := by
  rw [Bool.eq_iff_iff, bne_iff_ne, ← Nat.pos_iff_ne_zero, forceCount, List.countP_pos_iff, List.any_eq_true]

theorem mul_toNat_bne {α : Type} [DecidableEq α] (k : Nat) (a b : α) :
    k * (a != b).toNat = if a = b then 0 else k := by
  by_cases h : a = b
  · simp [h]
  · rw [if_neg h, bne_iff_ne.2 h, Bool.toNat_true, Nat.mul_one]

/-- R32: the flags of NSTAT. -/
theorem nstatFlags_eq (s : State) : nstatFlags s = BitVec.ofNat 8
    ((if s.banks.armed = none then 0 else 1) + (if s.pins.force.toList.any Option.isSome then 2 else 0)
      + (if s.queue.lost = 0 then 0 else 4) + (if s.mx.slot = .idle then 0 else 8)) := by
  rw [nstatFlags, flagBits_eq, forceCount_bne_zero]
  congr 1
  have ha : s.banks.armed.isSome.toNat = if s.banks.armed = none then 0 else 1 := by
    cases s.banks.armed <;> rfl
  have hf : 2 * (s.pins.force.toList.any Option.isSome).toNat =
      if s.pins.force.toList.any Option.isSome then 2 else 0 := by
    cases s.pins.force.toList.any Option.isSome <;> rfl
  rw [ha, hf, mul_toNat_bne, mul_toNat_bne]

/-! ### IN values -/

/-- R40: when an IN value is taken. -/
theorem takeDue_iff {f : Frame} {rows : List Row} {r : Row} {L : Nat} : takeDue f rows r L = true ↔
    r.inWithin L = true ∧ (∀ e ∈ rows, e.inWithin L = true → e.b0 = r.b0 → e.b1 = r.b1 → r.offset ≤ e.offset) ∧
      f.arrived.length = 48 + r.offset ∧ ∀ k ∈ f.taken, some k.chan = r.chan → k.inst ≠ r.b1 := by
  have hlow : lowestOfInstance rows r L = true ↔
      ∀ e ∈ rows, e.inWithin L = true → e.b0 = r.b0 → e.b1 = r.b1 → r.offset ≤ e.offset := by
    simp only [lowestOfInstance, List.all_eq_true, Bool.or_eq_true, Bool.not_eq_true', decide_eq_true_eq]
    refine forall_congr' fun e => forall_congr' fun _ => ⟨fun h hw h0 h1 => h.resolve_left fun hn => ?_, fun h => ?_⟩
    · rw [hw, h0, h1, beq_self_eq_true, beq_self_eq_true] at hn
      exact nomatch hn
    · cases hsame : e.inWithin L && e.b0 == r.b0 && e.b1 == r.b1 with
      | false => exact .inl rfl
      | true =>
        obtain ⟨hw0, h1⟩ := Bool.and_eq_true_iff.1 hsame
        obtain ⟨hw, h0⟩ := Bool.and_eq_true_iff.1 hw0
        exact .inr (h hw (beq_iff_eq.1 h0) (beq_iff_eq.1 h1))
  simp [takeDue, hlow, and_assoc]

/-- R40: the value of an IN entry is taken when it is due. -/
theorem exec_inValueTaken {f : Frame} {row : Fin 32} {L : Nat} {s : State} {r : Row} {c : Chan} (hp : s.passing f)
    (hf : f.processed = true) (hh : f.header = .good .process L) (hr : s.boundRow f row = r) (hc : r.chan = some c)
    (hd : takeDue f (s.banks.bank f.bound).slot.toList r L = true) :
    exec (.inValueTaken row) s = .next (s.setFrame
      (some { f with taken := f.taken ++ [⟨c, r.b1, s.channelValue c r.b1 r.count⟩] })) := by
  obtain ⟨hheld, hframe⟩ := hp
  simp only [exec, execInValueTaken, hheld, hframe, Frame.imageLength_eq hh hf, hr, hd, State.takeValue, hc,
    Bool.false_eq_true, if_false, if_true]

/-! What each IN channel holds (R30 to R32). -/

section
variable (inst : Byte) (n : Unit4) (count : Nat) (s : State)

theorem State.channelValue_cccnt :
    s.channelValue .cccnt (BitVec.ofNat 8 n.val) count = bytes32 s.cc[n].count := by
  simp only [State.channelValue, unit_ofNat_toNat]

theorem State.channelValue_ccstamp :
    s.channelValue .ccstamp (BitVec.ofNat 8 n.val) count = bytes32 s.cc[n].stamp := by
  simp only [State.channelValue, unit_ofNat_toNat]

theorem State.channelValue_nstat : s.channelValue .nstat inst count =
    [BitVec.ofNat 8 (s.mc.mode.code.toNat + 16 * s.mc.cause.code.toNat), BitVec.ofNat 8
      ((if s.banks.armed = none then 0 else 1) + (if s.pins.force.toList.any Option.isSome then 2 else 0)
        + (if s.queue.lost = 0 then 0 else 4) + (if s.mx.slot = .idle then 0 else 8))] := by
  rw [← modeCauseByte_eq, ← nstatFlags_eq]
  rfl

end

/-- Settles O22: the value is due, and it is what its channel holds. -/
theorem inValueTakenWhole : Obligations.InValueTakenWhole := by
  intro f row L s hp hf hh rows r hl hL hlow hfirst takes
  have taken : ∀ {c : Chan} {v : List Byte}, r.chan = some c → c.isIn = true →
      s.channelValue c r.b1 r.count = v → takes c v := by
    rintro c _ hc hi rfl
    refine exec_inValueTaken hp hf hh rfl hc (takeDue_iff.2 ⟨?_, ?_, hl, hfirst⟩)
    · exact (Row.inWithin_iff hc).2 ⟨hi, Row.width_of_chan hc ▸ hL⟩
    · exact fun e he hw h0 h1 => hlow e he h0 h1 (Row.fits_of_inWithin hw)
  refine ⟨fun h0 => ?_, fun n h0 h1 => ?_, fun n h0 h1 => ?_, fun h0 => ?_, fun h0 => ?_⟩
  · exact taken (congrArg Chan.ofCode h0) rfl rfl
  · exact taken (congrArg Chan.ofCode h0) rfl (h1 ▸ State.channelValue_cccnt n _ s)
  · exact taken (congrArg Chan.ofCode h0) rfl (h1 ▸ State.channelValue_ccstamp n _ s)
  · exact taken (congrArg Chan.ofCode h0) rfl rfl
  · intro mode cause forced
    have hm : mode = s.mc.mode.code.toNat := by
      cases h : s.mc.mode <;> simp only [mode, h] <;> rfl
    have hc : cause = s.mc.cause.code.toNat := by
      cases h : s.mc.cause <;> simp only [cause, h] <;> rfl
    rw [hm, hc]
    exact taken (congrArg Chan.ofCode h0) rfl (State.channelValue_nstat _ _ s)

/-! ### Data bytes -/

/-- R37, R40: outside the image of a processed frame a byte leaves as it arrived. -/
theorem State.sentByte_outside {f : Frame} {s : State} {b : Byte}
    (h : ∀ L, f.header = .good .process L → f.processed = true → 48 ≤ f.arrived.length →
      L ≤ f.arrived.length - 48) : s.sentByte f b = b := by
  unfold State.sentByte
  split
  · rename_i L hh
    refine if_neg ?_
    rintro ⟨hf, h48, hL⟩
    exact absurd (h L hh hf h48) (Nat.not_le.2 hL)
  · rfl

/-- R40: in the image of a processed frame the IN entries decide. -/
theorem State.sentByte_inside {f : Frame} {L : Nat} {s : State} {b : Byte} (hh : f.header = .good .process L)
    (hf : f.processed = true) (h48 : 48 ≤ f.arrived.length) (hL : f.arrived.length - 48 < L) :
    s.sentByte f b =
      imageByte (s.banks.bank f.bound).slot.toList f.taken L (f.arrived.length - 48) b := by
  simp only [State.sentByte, hh]
  exact if_pos ⟨hf, h48, hL⟩

section
variable {rows : List Row} {taken : List Taken} {L i : Nat} {b : Byte}

/-- Where no IN entry covers an image byte it leaves as it arrived. -/
theorem imageByte_uncovered (h : ∀ r ∈ rows, r.inWithin L = true → r.covers i = false) :
    imageByte rows taken L i b = b := by
  have hn : rows.find? (fun r => r.inWithin L && r.covers i) = none := by
    rw [List.find?_eq_none]
    intro r hr hw
    obtain ⟨hin, hcov⟩ := Bool.and_eq_true_iff.1 hw
    exact Bool.false_ne_true ((h r hr hin).symm.trans hcov)
  rw [imageByte, hn]
  rfl

/-- The only element of a list that a test finds. -/
theorem find?_eq_some_of_unique {α : Type} {p : α → Bool} {l : List α} {a : α} (ha : a ∈ l) (hp : p a = true)
    (hu : ∀ x ∈ l, p x = true → x = a) : l.find? p = some a := by
  cases hx : l.find? p with
  | none => exact absurd hp (List.find?_eq_none.1 hx a ha)
  | some x => rw [hu x (List.mem_of_find?_eq_some hx) (List.find?_some hx)]

/-- Where one IN entry covers an image byte and one value was taken for it, that value's byte leaves. -/
theorem imageByte_taken {r : Row} {k : Taken} (hr : r ∈ rows) (hin : r.inWithin L = true)
    (hcov : r.covers i = true) (honly : ∀ e ∈ rows, e.inWithin L = true → e.covers i = true → e = r)
    (hk : k ∈ taken) (hc : some k.chan = r.chan) (hi : k.inst = r.b1)
    (hone : ∀ j ∈ taken, some j.chan = r.chan → j.inst = r.b1 → j = k) :
    imageByte rows taken L i b = k.value.getD (i - r.offset) 0 := by
  have hrow : rows.find? (fun r => r.inWithin L && r.covers i) = some r :=
    find?_eq_some_of_unique hr (Bool.and_eq_true_iff.2 ⟨hin, hcov⟩) fun e he hp =>
      honly e he (Bool.and_eq_true_iff.1 hp).1 (Bool.and_eq_true_iff.1 hp).2
  have htaken : taken.find? (fun t => some t.chan == r.chan && t.inst == r.b1) = some k :=
    find?_eq_some_of_unique hk (by simp [hc, hi]) fun j hj hp => by
      obtain ⟨hjc, hji⟩ := Bool.and_eq_true_iff.1 hp
      exact hone j hj (beq_iff_eq.1 hjc) (beq_iff_eq.1 hji)
  rw [imageByte, hrow, Option.bind_some, htaken]
  rfl

end

/-- R182: a data byte that completes nothing and is not over the frame's length passes. -/
theorem exec_dataByte {f : Frame} {b : Byte} {s : State} (hp : s.passing f) (hl : s.link.inState = .up)
    (hheader : f.headerDue [.byte b] = false) (hfield : f.fieldDue [.byte b] = false)
    (hseg : f.lastOfSegment = false) (hexc : f.excessDue = false) (hlen : f.arrived.length < 564) :
    exec (.validSymbol (.data b)) s = .next { s with
      fp := { s.fp with frame := some { f with arrived := f.arrived ++ [.byte b] } }
      link := { s.link with line := drain (s.link.line ++ [.data (s.sentByte f b)]), errorRun := 0 } } := by
  obtain ⟨hheld, hframe⟩ := hp
  have hmax : f.arrived.length ≠ Config.maxFrameBytes := Nat.ne_of_lt hlen
  have hdamaged : (f.damaged || [Sym.byte b].any Sym.damages) = f.damaged := Bool.or_false _
  simp only [exec, execValidSymbol, hheld, State.symbolArrives, State.dataArrives, hl, hframe, State.validLink_up hl,
    State.symbolInFrame, hheader, hfield, hseg, State.frameSymbol, if_neg hmax, State.poisonIfExcess_of_not_due hexc,
    Bool.false_eq_true, if_false, if_true]
  rw [State.passSymbols, hdamaged]
  rfl

/-- Settles O23: the byte that leaves is the arriving one, but where an IN entry covers it. -/
theorem dataByteInFrame : Obligations.DataByteInFrame := by
  intro f b s hp hl hheader hfield hseg hexc hlen leaves i rows
  have sent : ∀ {out : Byte}, s.sentByte f b = out → leaves out := by
    rintro _ rfl
    exact exec_dataByte hp hl hheader hfield hseg hexc hlen
  refine ⟨fun h => sent (State.sentByte_outside fun L hh hf h48 => ?_), fun L hh => ⟨fun h => sent ?_, ?_⟩⟩
  · rcases h with h | h | h
    · exact absurd (h.symm.trans hf) nofun
    · exact absurd h48 (Nat.not_le.2 h)
    · exact absurd hh (h L)
  · by_cases hin : f.processed = true ∧ 48 ≤ f.arrived.length ∧ i < L
    · obtain ⟨hf, h48, hL⟩ := hin
      rw [State.sentByte_inside hh hf h48 hL]
      exact imageByte_uncovered (h.resolve_left (Nat.not_le.2 hL))
    · refine State.sentByte_outside fun L' hh' hf h48 => ?_
      obtain ⟨-, rfl⟩ := HeaderMark.good.inj (hh.symm.trans hh')
      exact Nat.not_lt.1 fun hL => hin ⟨hf, h48, hL⟩
  · intro r k hf h48 hL hr hw hcov honly hk hc hi hone
    refine sent ?_
    rw [State.sentByte_inside hh hf h48 hL]
    exact imageByte_taken hr hw hcov honly hk hc hi hone

end Sys2Proof.Machine
end

section
/-! SUPPORT. The four aborts of the frame in passage. -/

namespace Sys2Proof.Machine

/-- An abort of the frame in passage. -/
theorem exec_frameAbort {f : Frame} {s : State} (hp : s.passing f) (cause : AbortCause) :
    exec (.frameAbort cause) s = .next (s.abortFor cause f) := by
  obtain ⟨hheld, hframe⟩ := hp
  simp only [exec, execFrameAbort, hheld, hframe, Bool.false_eq_true, if_false]

/-- R188, R49, R183: what an abort does. -/
theorem State.abortFrame_eq (f : Frame) (headless : Bool) (s : State) :
    s.abortFrame f headless = { s with
      fp := { s.fp with frame := none }
      stats := { s.stats with
        aborted := satInc s.stats.aborted
        headerErrors := if headless = true ∧ f.header = .awaited then satInc s.stats.headerErrors
          else s.stats.headerErrors }
      store := { s.store with framePending := FramePending.empty }
      link := { s.link with line := drain (s.link.line ++ [.abortDelimiter]) } } := by
  unfold State.abortFrame
  dsimp only
  split <;> rfl

/-- R187: the line when a 565th data byte arrives: a trailer position that has just passed is written poisoned. -/
def Frame.lineWhenFull (f : Frame) (line : List OutSym) : List OutSym :=
  match f.header with
  | .good t L => if expectedLength t L = 564 then writeTrailer 564 false line else line
  | _ => line

/-- R187: what a 565th data byte does to the trailer position. -/
theorem State.poisonIfExcess_full {f : Frame} (h : f.arrived.length = 564) (s : State) :
    s.poisonIfExcess f = { s with link := { s.link with line := f.lineWhenFull s.link.line } } := by
  unfold State.poisonIfExcess Frame.lineWhenFull
  rw [h]
  cases f.header with
  | awaited => rfl
  | bad => rfl
  | good t L =>
    by_cases hx : 564 = expectedLength t L
    · simp only [if_pos hx, if_pos hx.symm]
    · simp only [if_neg hx, if_neg (Ne.symm hx)]

/-- R182, R187, R188: the abort at a 565th data byte. -/
theorem State.abortFor_tooLong {f : Frame} {s : State} (hl : s.link.inState = .up) (h : f.arrived.length = 564) :
    s.abortFor .tooLong f = { s with
      fp := { s.fp with frame := none }
      stats := { s.stats with aborted := satInc s.stats.aborted }
      store := { s.store with framePending := FramePending.empty }
      link := { s.link with
        errorRun := 0, discarding := true
        line := drain (f.lineWhenFull s.link.line ++ [.abortDelimiter]) } } := by
  rw [State.abortFor, if_pos (by exact h), State.tooLong, State.poisonIfExcess_full h, State.abortFrame_eq,
    State.validLink_up hl]
  simp only [Bool.false_eq_true, false_and, if_false]

/-- Settles O30: each cause closes the frame by the same abort, from the link as the cause leaves it. -/
theorem frameAborts : Obligations.FrameAborts := by
  intro f s hp hl aborts
  have hframe : s.fp.frame = some f := hp.2
  refine ⟨?_, ?_, ?_, ?_, fun hfull => ?_⟩
  · refine (exec_frameAbort hp _).trans ?_
    simp only [State.abortFor, State.abortAtLinkDown, hframe, State.abortFrame_eq, Bool.false_eq_true, false_and,
      if_false]
  · refine (exec_frameAbort hp _).trans ?_
    simp only [State.abortFor, State.abortFrame_eq, State.validLink_up hl, true_and]
  · rw [exec_frameAbort hp]
    simp only [exec, execValidSymbol, hp.1, State.symbolArrives, State.abortArrives, hl, hframe, State.abortFor,
      Bool.false_eq_true, if_false, if_true]
  · refine (exec_frameAbort hp _).trans ?_
    simp only [State.abortFor, State.abortFrame_eq, State.validLink_up hl, State.setMark, Bool.false_eq_true, false_and,
      if_false]
  · exact (exec_frameAbort hp _).trans (congrArg _ (State.abortFor_tooLong hl hfull))

end Sys2Proof.Machine
end

section
/-! SUPPORT. The read-only requests and the unknown codes: answered whatever the state of the exchange slot. -/

namespace Sys2Proof.Machine

/-! ### Answers at once -/

/-- R154, R155: a request that is answered whatever the slot is consumed and answered in its own segment. -/
theorem exec_answerAtOnce {c : Instr} {f : Frame} {code : Byte} {rq : Request} {answer : State → Answer} {s : State}
    (hx : exec c s = .next (s.withRequest code rq (answerAtOnce code rq answer))) (hm : s.meets f code rq) :
    exec c s = .next (State.answerSegment f (requestBytes code rq) ((answer s).response code rq) s.mc.address
      s.countConsumed) := by
  rw [hx, State.withRequest_of_meets hm, answerAtOnce]

theorem readOnlyAnswer_refused {rq : Request} (h : rq.length ≠ 0) (payload : State → List Byte) (s : State) :
    readOnlyAnswer rq payload s = ⟨stBadLength, 0, [], false⟩ :=
  if_pos fun hz => h (requestSize_eq_iff.1 hz)

theorem readOnlyAnswer_given {rq : Request} (h : rq.length = 0) (payload : State → List Byte) (s : State) :
    readOnlyAnswer rq payload s = ⟨stOk, 0, payload s, false⟩ :=
  if_neg fun hn => hn (requestSize_eq_iff.2 h)

section
variable {c : Instr} {f : Frame} {code : Byte} {rq : Request} {payload : State → List Byte} {s : State}

/-- R154: a read-only request with a payload is answered BAD_LENGTH. -/
theorem exec_readOnly_refused
    (hx : exec c s = .next (s.withRequest code rq (answerAtOnce code rq (readOnlyAnswer rq payload))))
    (hl : rq.length ≠ 0) (hm : s.meets f code rq) :
    exec c s = .next (State.answerSegment f (requestBytes code rq) ⟨rq.tag, code, 0x81, 0, []⟩ s.mc.address
      s.countConsumed) := by
  rw [exec_answerAtOnce hx hm, readOnlyAnswer_refused hl]
  rfl

/-- R154: a read-only request without one is answered OK with what it reads. -/
theorem exec_readOnly_given
    (hx : exec c s = .next (s.withRequest code rq (answerAtOnce code rq (readOnlyAnswer rq payload))))
    (hl : rq.length = 0) {p : List Byte} (hp : payload s = p) (hm : s.meets f code rq) :
    exec c s = .next (State.answerSegment f (requestBytes code rq) ⟨rq.tag, code, 0x00, 0, p⟩ s.mc.address
      s.countConsumed) := by
  rw [exec_answerAtOnce hx hm, readOnlyAnswer_given hl, hp]
  rfl

end

/-- R155: a request whose code is none of Table 8-5 is answered BAD_OPCODE. -/
theorem exec_badOpcode {f : Frame} {code : Byte} {rq : Request} {s : State} (h : code ∉ knownCodes)
    (hm : s.meets f code rq) :
    exec (.badOpcode code rq) s = .next (State.answerSegment f (requestBytes code rq) ⟨rq.tag, code, 0x80, 0, []⟩
      s.mc.address s.countConsumed) := by
  have hc : ¬ knownCodes.contains code = true := by simpa using h
  have hx : exec (.badOpcode code rq) s = .next (s.withRequest code rq (handleBadOpcode code rq)) := by
    simp only [exec, execBadOpcode, if_neg hc]
  rw [exec_answerAtOnce hx hm]
  rfl

/-! ### Payloads -/

/-- R194: the reset cause record in one byte. -/
theorem resetCauseByte_eq (c : ResetCause) : resetCauseByte c =
    BitVec.ofNat 8 ((if c.power then 1 else 0) + (if c.pin then 2 else 0) + (if c.soft then 4 else 0)) := by
  unfold resetCauseByte
  cases c.power <;> cases c.pin <;> cases c.soft <;> rfl

/-- Table 10-9. -/
theorem identifyPayload_eq (s : State) : identifyPayload s =
    [0xEC, 0x18, 0x24, 0x03, s.mc.address, modeCauseByte s.mc, s.banks.gen, s.banks.armed.getD 0, s.mx.slot.code,
      resetCauseByte s.mc.resetCause, BitVec.ofNat 8 s.queue.records.length, s.queue.lost,
      BitVec.ofNat 8 (s.pins.force.toList.countP Option.isSome), s.fp.position, 0, 0] :=
  rfl

theorem PinState.driven_eq (p : PinState) : p.driven = (p == .low || p == .high) := by
  cases p <;> rfl

theorem PinState.reported_eq (p : PinState) : p.reported = (p == .high || p == .pullup) := by
  cases p <;> rfl

/-- Settles O34: each of the four is answered at once, with what its payload holds. -/
theorem answeredWhateverTheSlot : Obligations.AnsweredWhateverTheSlot := by
  intro f rq s modeAndCause resetCause ownerCode answered
  have hmode : modeCauseByte s.mc = modeAndCause := by
    rw [modeCauseByte_eq]
    cases hm : s.mc.mode <;> cases hc : s.mc.cause <;> simp only [modeAndCause, hm, hc] <;> rfl
  have hreset : resetCauseByte s.mc.resetCause = resetCause := resetCauseByte_eq _
  have hcode : Owner.code = ownerCode := by
    funext o
    cases o <;> rfl
  refine ⟨fun hl => ⟨?_, ?_, ?_⟩, fun hl => ?_, fun hl => ?_, fun hl => ?_, fun code hk => ?_⟩
  iterate 3 exact exec_readOnly_refused rfl hl
  · refine exec_readOnly_given rfl hl ?_
    rw [identifyPayload_eq, hmode, hreset]
    cases s.mx.slot <;> rfl
  · refine exec_readOnly_given rfl hl ?_
    rw [statusPayload, Stats.list]
  · refine ⟨pinWord fun n => (s.pinState n).driven, pinWord fun n => (s.pinState n).reported,
      exec_readOnly_given rfl hl ?_, fun n => ⟨?_, ?_⟩⟩
    · rw [ownersPayload, hcode]
    · rw [pinWord_getLsbD, PinState.driven_eq]
    · rw [pinWord_getLsbD, PinState.reported_eq]
  · exact exec_badOpcode hk

end Sys2Proof.Machine
end

section
/-! SUPPORT. Outputs that enter the current tier: at a STROBE, and at the end of a good processed frame. -/

namespace Sys2Proof.Machine

/-! ### Pins decided anew -/

/-- A node whose owners are its deciding sources is as if its pins had just been decided. -/
theorem DecidedAnew.refl {s : State} (h : ∀ n : Pin, s.pins.owner[n] = s.deciding n) : DecidedAnew s s :=
  fun n => ⟨h n, (if_neg (not_not_intro rfl)).symm⟩

/-- What decides the pins are the force records, the mode, the tables and the units; the rest may move. -/
theorem DecidedAnew.of_same {s t u : State} (h : DecidedAnew s t) (hp : u.pins = t.pins)
    (hs : u.sampler.settle = t.sampler.settle) (hm : u.mc.mode = t.mc.mode) (hb : u.banks = t.banks)
    (hg : u.pg = t.pg) : DecidedAnew s u := by
  intro n
  have hrow : u.pinRow n = t.pinRow n := by rw [State.pinRow, hb, State.pinRow]
  have hd : u.deciding n = t.deciding n := State.deciding_congr (by rw [hp]) (by rw [hm]) hrow (by rw [hg])
  rw [hp, hs, hd, hrow]
  exact h n

/-- Pins decided twice, the first time without a change of owner. -/
theorem DecidedAnew.trans {s t u : State} (h : DecidedAnew s t) (ho : t.pins.owner = s.pins.owner)
    (k : DecidedAnew t u) : DecidedAnew s u := by
  intro n
  have hs : t.sampler.settle[n] = s.sampler.settle[n] := by
    rw [(h n).2, if_neg (not_not_intro (by rw [ho]))]
  rw [← ho, ← hs]
  exact k n

/-- Table 3-1: in FALLBACK the force records alone decide. -/
theorem State.deciding_fallback {s : State} (h : s.mc.mode = .fallback) (n : Pin) :
    s.deciding n = if s.pins.force[n].isSome then .force else .fallback := by
  rw [State.deciding, if_pos h]

/-- What is decided anew within FALLBACK changes no owner. -/
theorem DecidedAnew.owner_fallback {s t : State} (h : DecidedAnew s t)
    (hd : ∀ n : Pin, s.pins.owner[n] = s.deciding n) (hf : t.pins.force = s.pins.force) (hm : t.mc.mode = s.mc.mode)
    (hb : s.mc.mode = .fallback) : t.pins.owner = s.pins.owner := by
  refine Vector.ext fun i hi => ?_
  have hn : t.pins.owner[(⟨i, hi⟩ : Pin)] = s.pins.owner[(⟨i, hi⟩ : Pin)] := by
    rw [(h _).1, hd, State.deciding_fallback (hm.trans hb), State.deciding_fallback hb, hf]
  exact hn

/-! ### Outputs entered -/

/-- A unit's value in the current tier, with the unit it is handed to. -/
def State.outputAt (n : Unit4) (s : State) : Setpoint × PulseGen := (s.store.pgset[n], s.pg[n])

theorem State.outputAt_enterSetpoint_same (p : Option Setpoint) (n : Unit4) (s : State) :
    (enterSetpoint p n s).outputAt n =
      (p.getD (s.outputAt n).1, p.elim (s.outputAt n).2 (s.outputAt n).2.take) := by
  obtain ⟨hv, hg⟩ := enterSetpoint_values p n n s
  rw [if_pos rfl] at hv hg
  rw [State.outputAt, hv, hg]
  cases p <;> rfl

theorem State.outputAt_enterSetpoint_other (p : Option Setpoint) {n k : Unit4} (h : k ≠ n) (s : State) :
    (enterSetpoint p n s).outputAt k = s.outputAt k := by
  obtain ⟨hv, hg⟩ := enterSetpoint_values p n k s
  rw [State.outputAt, hv, hg, if_neg h, if_neg h]
  rfl

/-- R33, R111: each value of a set that enters goes to its place in the current tier and to its unit. -/
theorem State.outputAt_enterOutputs (o : StrobeSet) (n : Unit4) (s : State) :
    (enterOutputs o s).outputAt n =
      (o.pgset[n].getD s.store.pgset[n], o.pgset[n].elim s.pg[n] s.pg[n].take) := by
  have same := State.outputAt_enterSetpoint_same
  have other := @State.outputAt_enterSetpoint_other
  unfold enterOutputs
  match n with
  | 0 =>
    rw [other _ (by decide), other _ (by decide), other _ (by decide), same]
    rfl
  | 1 =>
    rw [other _ (by decide), other _ (by decide), same, other _ (by decide)]
    rfl
  | 2 =>
    rw [other _ (by decide), same, other _ (by decide), other _ (by decide)]
    rfl
  | 3 =>
    rw [same, other _ (by decide), other _ (by decide), other _ (by decide)]
    rfl

/-! ### STROBE -/

/-- R50: when a STROBE header is acted on. -/
theorem State.strobeHeader_eq (h : Header) (s : State) :
    s.strobeHeader h =
      if s.banks.gen ≠ 0 ∧ h.gen = s.banks.gen ∧ s.policy.b3 = 1 then s.applyStrobe else s := by
  simp only [State.strobeHeader, Row.strobed, beq_iff_eq]

/-- A good STROBE header that is due. -/
theorem exec_frameHeader_strobe {f : Frame} {rest : List Sym} {h : Header} {s : State} (hp : s.passing f)
    (hd : f.headerDue rest = true) (hj : judgeHeader (f.arrived ++ rest) = some h) (ht : h.type = .strobe) :
    exec (.frameHeader rest) s =
      .next (((s.headerSent h f rest).setFrame (some (f.judged h rest))).strobeHeader h) := by
  rw [exec_frameHeader_good hp hd hj, State.handOn, ht]

/-- R51 to R53: a STROBE acted on with a set pending. -/
theorem State.applyStrobe_set {s : State} {o : StrobeSet} (ho : s.store.strobePending = some o) :
    s.applyStrobe = { s with
      store := { s.store with
        dout := o.dout.getD s.store.dout, pgset := (enterOutputs o s).store.pgset, strobePending := none }
      pg := (enterOutputs o s).pg
      pins := { s.pins with owner := (enterOutputs o s).pins.owner }
      sampler := { s.sampler with
        settle := (enterOutputs o s).sampler.settle, snapshot := s.sampler.level }
      stats := { s.stats with strobesApplied := satInc s.stats.strobesApplied } } := by
  have hf := enterOutputs_frame o s
  rw [State.applyStrobe, ho]
  dsimp only
  generalize enterOutputs o s = u at hf ⊢
  rw [hf]
  rfl

/-- Settles O19: a STROBE acted on latches, and with a set pending enters it; else only the header is sent on. -/
theorem strobeHeaderReleasesSet : Obligations.StrobeHeaderReleasesSet := by
  intro f rest h s hp hd hj ht bytes sent link fp acts
  have hexec := exec_frameHeader_strobe hp hd hj ht
  have hsent : (s.headerSent h f rest).setFrame (some (f.judged h rest)) = { s with fp := fp, link := link } := by
    simp only [Frame.judged, ht]
    rfl
  rw [hsent, State.strobeHeader_eq] at hexec
  refine ⟨fun ha => ?_, fun ha ho => ?_, fun o ha ho => ?_⟩
  · exact hexec.trans (congrArg _ (if_neg ha))
  · rw [if_pos (by exact ha), State.applyStrobe, ho] at hexec
    exact hexec
  · rw [if_pos (by exact ha), State.applyStrobe_set (by exact ho)] at hexec
    have hvalues := fun n => State.outputAt_enterOutputs o n { s with fp := fp, link := link }
    have hdecided := enterOutputs_decided o (s := { s with fp := fp, link := link })
    have hframe := enterOutputs_frame o { s with fp := fp, link := link }
    generalize enterOutputs o { s with fp := fp, link := link } = u at hexec hvalues hdecided hframe
    refine ⟨_, hexec, rfl, rfl, rfl, rfl, fun n => ⟨?_, ?_⟩, fun hs => ?_, rfl⟩
    · exact congrArg Prod.fst (hvalues n)
    · refine (congrArg Prod.snd (hvalues n)).trans ?_
      cases o.pgset[n] <;> rfl
    · refine (hdecided hs.1).of_same ?_ rfl ?_ ?_ rfl
      all_goals
        rw [hframe]

/-! ### The set of a frame -/

/-- The set a frame's captures make: the DOUT and PGSET values of the frame-pending tier. -/
def State.frameSet (s : State) : StrobeSet := ⟨s.store.framePending.dout, s.store.framePending.pgset⟩

/-- R46: the set holds a value. -/
abbrev StrobeSet.HasOutput (o : StrobeSet) : Prop := ¬ (o.dout = none ∧ ∀ n : Unit4, o.pgset[n] = none)

theorem StrobeSet.not_hasOutput_iff {o : StrobeSet} :
    ¬ o.HasOutput ↔ o.dout = none ∧ o.pgset = Vector.replicate 4 none := by
  have hv : o.pgset = Vector.replicate 4 none ↔ ∀ n : Unit4, o.pgset[n] = none := by
    constructor
    · intro h n
      rw [h]
      exact Vector.getElem_replicate _
    · intro h
      refine Vector.ext fun i hi => ?_
      rw [Vector.getElem_replicate]
      exact h ⟨i, hi⟩
  rw [StrobeSet.HasOutput, Classical.not_not, hv]

/-- R46: a set without a value fills nothing. -/
theorem fillStrobe_of_not_hasOutput {o : StrobeSet} (h : ¬ o.HasOutput) (s : State) : fillStrobe o s = s :=
  if_pos (StrobeSet.not_hasOutput_iff.1 h)

/-- R46: a set with a value fills the strobe-pending tier; one that was there is overrun. -/
theorem fillStrobe_of_hasOutput {o : StrobeSet} (h : o.HasOutput) (s : State) :
    fillStrobe o s = { s with
      store := { s.store with strobePending := some o }
      stats := { s.stats with
        strobeOverruns :=
          if s.store.strobePending.isSome then satInc s.stats.strobeOverruns else s.stats.strobeOverruns } } := by
  rw [fillStrobe, if_neg (fun hn => StrobeSet.not_hasOutput_iff.2 hn h)]
  split <;> rfl

/-- R45, R46: the set of a good processed frame goes to the tier that the apply mode names. -/
def takeSet (policy : Row) (o : StrobeSet) (s : State) : State :=
  if policy.b3 = 1 then fillStrobe o s else enterOutputs o s

section
variable (policy : Row) (o : StrobeSet) (s : State)

/-- What the set of a frame touches. -/
theorem takeSet_frame : takeSet policy o s = { s with
    store := { s.store with
      dout := if policy.b3 = 1 then s.store.dout else o.dout.getD s.store.dout
      pgset := (takeSet policy o s).store.pgset
      strobePending := if policy.b3 = 1 ∧ o.HasOutput then some o else s.store.strobePending }
    pg := (takeSet policy o s).pg
    pins := { s.pins with owner := (takeSet policy o s).pins.owner }
    sampler := { s.sampler with settle := (takeSet policy o s).sampler.settle }
    stats := { s.stats with
      strobeOverruns :=
        if (policy.b3 = 1 ∧ o.HasOutput) ∧ s.store.strobePending.isSome then satInc s.stats.strobeOverruns
        else s.stats.strobeOverruns } } := by
  by_cases hs : policy.b3 = 1
  · rw [takeSet, if_pos hs]
    by_cases ho : o.HasOutput
    · have hb : policy.b3 = 1 ∧ o.HasOutput := ⟨hs, ho⟩
      simp only [if_pos hs, if_pos hb, and_iff_right hb, fillStrobe_of_hasOutput ho]
    · have hb : ¬ (policy.b3 = 1 ∧ o.HasOutput) := fun h => ho h.2
      simp only [if_pos hs, if_neg hb, if_neg (fun h => hb (And.left h)), fillStrobe_of_not_hasOutput ho]
  · have hb : ¬ (policy.b3 = 1 ∧ o.HasOutput) := fun h => hs h.1
    have hf := enterOutputs_frame o s
    rw [takeSet, if_neg hs]
    simp only [if_neg hs, if_neg hb, if_neg (fun h => hb (And.left h))]
    exact hf

/-- R45, R111: a unit's value and the unit after the set of a frame. -/
theorem outputAt_takeSet (n : Unit4) : (takeSet policy o s).outputAt n =
    if policy.b3 = 1 then s.outputAt n
    else (o.pgset[n].getD s.store.pgset[n], o.pgset[n].elim s.pg[n] s.pg[n].take) := by
  by_cases hs : policy.b3 = 1
  · rw [takeSet, if_pos hs, if_pos hs]
    by_cases ho : o.HasOutput
    · rw [fillStrobe_of_hasOutput ho]
      rfl
    · rw [fillStrobe_of_not_hasOutput ho]
  · rw [takeSet, if_neg hs, if_neg hs, State.outputAt_enterOutputs]

/-- R72: the set of a frame marks a pin exactly where its owner changes. -/
theorem takeSet_decided (hd : ∀ n : Pin, s.pins.owner[n] = s.deciding n) : DecidedAnew s (takeSet policy o s) := by
  by_cases hs : policy.b3 = 1
  · rw [takeSet, if_pos hs]
    by_cases ho : o.HasOutput
    · rw [fillStrobe_of_hasOutput ho]
      exact (DecidedAnew.refl hd).of_same rfl rfl rfl rfl rfl
    · rw [fillStrobe_of_not_hasOutput ho]
      exact .refl hd
  · rw [takeSet, if_neg hs]
    exact enterOutputs_decided o hd

end

/-! ### The acknowledgement and the Mode Controller at a good processed frame end -/

/-- R48: what an acknowledgement touches. -/
theorem takeAck_eq (a : Option Half) (s : State) : takeAck a s = { s with
    queue :=
      match a with
      | some a => (s.queue.ack a).1
      | none => s.queue
    stats := { s.stats with
      badAcks :=
        match a with
        | some a => if (s.queue.ack a).2 then satInc s.stats.badAcks else s.stats.badAcks
        | none => s.stats.badAcks } } := by
  cases a with
  | none => rfl
  | some a =>
    dsimp only [takeAck]
    cases (s.queue.ack a).2 <;> rfl

/-- R143: a good processed frame lets a node resume. -/
abbrev Resumes (policy : Row) (s : State) : Prop :=
  s.mc.mode = .fallback ∧ policy.b4 = 1 ∧ (s.mc.cause = .timeout ∨ s.mc.cause = .link)

/-- R137, R143: the three outcomes at the Mode Controller. -/
theorem goodFrameAtMode_eq (policy : Row) (s : State) :
    goodFrameAtMode policy s =
      if s.mc.mode = .running then s.startTimer else if Resumes policy s then s.leaveFallback else s := by
  simp only [goodFrameAtMode, Row.onFrame, beq_iff_eq, Resumes]

section
variable (policy : Row) (s : State)

/-- What a good processed frame touches at the Mode Controller. -/
theorem goodFrameAtMode_frame : goodFrameAtMode policy s = { s with
    mc :=
      if s.mc.mode = .running then { s.mc with timer := some (s.policy.timeout * 100) }
      else if Resumes policy s then { s.mc with mode := .running, timer := some (s.policy.timeout * 100) }
      else s.mc
    pins := { s.pins with owner := (goodFrameAtMode policy s).pins.owner }
    sampler := { s.sampler with settle := (goodFrameAtMode policy s).sampler.settle } } := by
  rw [goodFrameAtMode_eq]
  by_cases hr : s.mc.mode = .running
  · simp only [if_pos hr]
    rfl
  · by_cases hf : Resumes policy s
    · have hframe := s.leaveFallback_frame
      have hmc := s.leaveFallback_spec.1
      simp only [if_neg hr, if_pos hf]
      rw [hmc] at hframe
      exact hframe
    · simp only [if_neg hr, if_neg hf]

theorem goodFrameAtMode_store : (goodFrameAtMode policy s).store = s.store := by
  rw [goodFrameAtMode_frame]

theorem goodFrameAtMode_pg : (goodFrameAtMode policy s).pg = s.pg := by
  rw [goodFrameAtMode_frame]

theorem goodFrameAtMode_cc : (goodFrameAtMode policy s).cc = s.cc := by
  rw [goodFrameAtMode_frame]

theorem goodFrameAtMode_queue : (goodFrameAtMode policy s).queue = s.queue := by
  rw [goodFrameAtMode_frame]

theorem goodFrameAtMode_mc : (goodFrameAtMode policy s).mc =
    if s.mc.mode = .running then { s.mc with timer := some (s.policy.timeout * 100) }
    else if Resumes policy s then { s.mc with mode := .running, timer := some (s.policy.timeout * 100) }
    else s.mc := by
  rw [goodFrameAtMode_frame]

/-- R69, R72: a resume decides the pins anew; the pins of a node in FALLBACK have kept their owners until then. -/
theorem DecidedAnew.goodFrameAtMode {s t : State} (h : DecidedAnew s t)
    (hd : ∀ n : Pin, s.pins.owner[n] = s.deciding n) (hp : t.pins.force = s.pins.force) (hm : t.mc = s.mc) :
    DecidedAnew s (goodFrameAtMode policy t) := by
  rw [goodFrameAtMode_eq]
  split
  · exact h.of_same rfl rfl rfl rfl rfl
  · split
    · rename_i hf
      have hb : s.mc.mode = .fallback := hm ▸ hf.1
      obtain ⟨-, -, -, hdec⟩ := t.leaveFallback_spec
      exact h.trans (h.owner_fallback hd hp (by rw [hm]) hb) hdec
    · exact h

end

/-! ### A good processed frame applied -/

/-- R44, R47, R48: the node after a good processed frame's set, toggles and acknowledgement. -/
def State.frameTaken (policy : Row) (s : State) : State :=
  takeAck s.store.framePending.evack (takeToggles s.store.framePending.ccctl (takeSet policy s.frameSet s))

/-- R44: the Mode Controller's part comes last. -/
theorem applyFrame_eq (policy : Row) (s : State) :
    applyFrame policy s = goodFrameAtMode policy (s.frameTaken policy) := by
  simp only [applyFrame, Row.strobed, beq_iff_eq]
  rfl

section
variable (policy : Row) (s : State)

theorem State.frameTaken_frame : s.frameTaken policy = { s with
    store := { s.store with
      dout := if policy.b3 = 1 then s.store.dout else s.frameSet.dout.getD s.store.dout
      pgset := (s.frameTaken policy).store.pgset
      strobePending := if policy.b3 = 1 ∧ s.frameSet.HasOutput then some s.frameSet else s.store.strobePending
      toggles := (s.frameTaken policy).store.toggles }
    pg := (s.frameTaken policy).pg
    cc := (s.frameTaken policy).cc
    queue :=
      match s.store.framePending.evack with
      | some a => (s.queue.ack a).1
      | none => s.queue
    pins := { s.pins with owner := (s.frameTaken policy).pins.owner }
    sampler := { s.sampler with settle := (s.frameTaken policy).sampler.settle }
    stats := { s.stats with
      strobeOverruns :=
        if (policy.b3 = 1 ∧ s.frameSet.HasOutput) ∧ s.store.strobePending.isSome then satInc s.stats.strobeOverruns
        else s.stats.strobeOverruns
      badAcks :=
        match s.store.framePending.evack with
        | some a => if (s.queue.ack a).2 then satInc s.stats.badAcks else s.stats.badAcks
        | none => s.stats.badAcks } } := by
  have hset := takeSet_frame policy s.frameSet s
  rw [State.frameTaken, takeAck_eq]
  generalize takeSet policy s.frameSet s = u at hset ⊢
  rw [hset]
  rfl

variable (n : Unit4)

theorem State.outputAt_frameTaken : (s.frameTaken policy).outputAt n =
    if policy.b3 = 1 then s.outputAt n
    else (s.frameSet.pgset[n].getD s.store.pgset[n], s.frameSet.pgset[n].elim s.pg[n] s.pg[n].take) := by
  rw [← outputAt_takeSet, State.frameTaken, takeAck_eq]
  rfl

/-- R45, R46: a unit's value in the current tier. -/
theorem State.frameTaken_pgset : (s.frameTaken policy).store.pgset[n] =
    if policy.b3 = 1 then s.store.pgset[n] else s.store.framePending.pgset[n].getD s.store.pgset[n] := by
  refine (congrArg Prod.fst (s.outputAt_frameTaken policy n) :).trans ?_
  split <;> rfl

/-- R111: a unit is handed the value that enters the current tier. -/
theorem State.frameTaken_pg : (s.frameTaken policy).pg[n] =
    match s.store.framePending.pgset[n] with
    | some v => if policy.b3 = 1 then s.pg[n] else s.pg[n].take v
    | none => s.pg[n] := by
  refine (congrArg Prod.snd (s.outputAt_frameTaken policy n) :).trans ?_
  rw [State.frameSet]
  by_cases hs : policy.b3 = 1
  · simp only [if_pos hs]
    cases s.store.framePending.pgset[n] <;> rfl
  · simp only [if_neg hs]
    cases s.store.framePending.pgset[n] <;> rfl

/-- R47: the clear toggle of a unit that had a CCCTL value. -/
theorem State.frameTaken_toggles : (s.frameTaken policy).store.toggles[n] =
    match s.store.framePending.ccctl[n] with
    | some b => b.getLsbD 0
    | none => s.store.toggles[n] := by
  have hset : (takeSet policy s.frameSet s).store.toggles = s.store.toggles := by rw [takeSet_frame]
  rw [State.frameTaken, takeAck_eq]
  simp only [takeToggles, Fin.getElem_fin, Vector.getElem_ofFn, hset]
  cases s.store.framePending.ccctl[n.val] <;> rfl

/-- R47: a unit is cleared when its toggle changes. -/
theorem State.frameTaken_cc : (s.frameTaken policy).cc[n] =
    match s.store.framePending.ccctl[n] with
    | some b => if b.getLsbD 0 = s.store.toggles[n] then s.cc[n] else ⟨0, 0, none⟩
    | none => s.cc[n] := by
  have hset : (takeSet policy s.frameSet s).store.toggles = s.store.toggles := by rw [takeSet_frame]
  have hcc : (takeSet policy s.frameSet s).cc = s.cc := by rw [takeSet_frame]
  rw [State.frameTaken, takeAck_eq]
  simp only [takeToggles, Fin.getElem_fin, Vector.getElem_ofFn, hset, hcc]
  cases s.store.framePending.ccctl[n.val] with
  | none => rfl
  | some b => exact ite_not _ _ _

/-- R72: up to the Mode Controller's part a pin is marked exactly where its owner changes. -/
theorem State.frameTaken_decided (hd : ∀ n : Pin, s.pins.owner[n] = s.deciding n) :
    DecidedAnew s (s.frameTaken policy) := by
  rw [State.frameTaken, takeAck_eq]
  exact (takeSet_decided policy s.frameSet s hd).of_same rfl rfl rfl rfl rfl

end

/-- R186, R187: the node when a good PROCESS frame has been closed and its verdict is handed to the blocks. -/
def State.frameClosed (f : Frame) (L : Nat) (s : State) : State :=
  { s with
    fp := { s.fp with frame := none }
    stats := { s.stats with goodFrames := satInc s.stats.goodFrames }
    link := { s.link with
      line := drain (endTrailer f .process L true s.link.line ++ [.endDelimiter]), errorRun := 0 } }

/-- R44: the end of a good processed frame: what was captured is applied, and the frame-pending tier is emptied. -/
theorem exec_frameEnd_applies {f : Frame} {L : Nat} {s : State} (hp : s.passing f) (hl : s.link.inState = .up)
    (hh : f.header = .good .process L) (hf : f.processed = true) (hg : f.trailerGood .process L = true) :
    exec .frameEnd s = .next (goodFrameAtMode (s.banks.bank f.bound).policy
      ((s.frameClosed f L).frameTaken (s.banks.bank f.bound).policy)).emptyPending := by
  rw [exec_frameEnd hp, State.validLink_up hl, ← applyFrame_eq]
  simp only [State.endFrame, hh, hg, if_true, deliverVerdict, hf, and_self]
  rfl

/-- Settles O28: the captures are taken, which leaves the Mode Controller as it was, then comes the Mode Controller's
part, which leaves what they touch but for the pins; and the tier is emptied. -/
theorem goodProcessedEndApplies : Obligations.GoodProcessedEndApplies := by
  intro f L s hp hl hh hf hg p policy hasOutput fills resumes
  have hframe := (s.frameClosed f L).frameTaken_frame policy
  have hpgset := (s.frameClosed f L).frameTaken_pgset policy
  have hpg := (s.frameClosed f L).frameTaken_pg policy
  have htoggles := (s.frameClosed f L).frameTaken_toggles policy
  have hcc := (s.frameClosed f L).frameTaken_cc policy
  have hdecided := (s.frameClosed f L).frameTaken_decided policy
  refine ⟨_, exec_frameEnd_applies hp hl hh hf hg, ?_⟩
  generalize (s.frameClosed f L).frameTaken policy = v at *
  have hmc : v.mc = s.mc := (congrArg State.mc hframe :)
  have hpolicy : v.policy = s.policy := (congrArg (fun u => u.banks.activeBank.policy) hframe :)
  refine ⟨rfl, ?_, ?_, fun n => ⟨?_, ?_, ?_, ?_⟩, ?_, ?_, fun h => ?_, ?_⟩
  · rw [State.emptyPending_store, goodFrameAtMode_store]
    exact (congrArg (fun u => u.store.dout) hframe :)
  · rw [State.emptyPending_store, goodFrameAtMode_store]
    exact (congrArg (fun u => u.store.strobePending) hframe :)
  · rw [State.emptyPending_store, goodFrameAtMode_store]
    exact hpgset n
  · rw [State.emptyPending_pg, goodFrameAtMode_pg]
    exact hpg n
  · rw [State.emptyPending_store, goodFrameAtMode_store]
    exact htoggles n
  · rw [State.emptyPending_cc, goodFrameAtMode_cc]
    exact hcc n
  · rw [State.emptyPending_queue, goodFrameAtMode_queue]
    exact (congrArg State.queue hframe :)
  · have hmode := goodFrameAtMode_mc policy v
    simp only [Resumes, hmc, hpolicy] at hmode
    exact hmode
  · exact ((hdecided h.1).goodFrameAtMode policy h.1 (congrArg (fun u => u.pins.force) hframe :) hmc).of_same
      rfl rfl rfl rfl rfl
  · have hw := goodFrameAtMode_frame policy v
    generalize goodFrameAtMode policy v = w at *
    rw [hw, hframe]
    rfl

end Sys2Proof.Machine
end

section
/-! SUPPORT. What decides the pins' owners, and the moves that keep each owner the deciding source. -/

namespace Sys2Proof.Machine

/-- The owners, what decides them (Table 3-1), and the provisional address of the frame in passage. -/
structure Ownership where
  owner : Vector Owner 24
  force : Vector (Option ForceState) 24
  mode : Mode
  bank : Bank
  claims : Byte → Option Owner
  provisional : Option Byte

/-- The ownership of a node's pins. -/
def State.ownership (s : State) : Ownership where
  owner := s.pins.owner
  force := s.pins.force
  mode := s.mc.mode
  bank := s.banks.activeBank
  claims := claimOwner s.pg
  provisional := s.fp.frame.bind Frame.provisional

/-- R58, Table 3-1: the deciding source of a pin. -/
def Ownership.source (o : Ownership) (n : Pin) : Owner :=
  if o.force[n].isSome then .force
  else if o.mode = .fallback then .fallback
  else (o.bank.pin[n].claimants.findSome? o.claims).getD .idle

theorem State.source_ownership (s : State) (n : Pin) : s.ownership.source n = s.deciding n := rfl

/-- The owners are the deciding sources, clause by clause. -/
structure Ownership.Ok (o : Ownership) : Prop where
  decided : ∀ n : Pin, o.owner[n] = o.source n
  provisional_ok : o.provisional.isSome = true → o.mode = .unaddressed

/-- The owners of a node are decided as those of its ownership are. -/
theorem State.ownersDecided_iff (s : State) : s.OwnersDecided ↔ s.ownership.Ok := by
  constructor
  · rintro ⟨hd, hp⟩
    refine ⟨hd, fun ha => ?_⟩
    obtain ⟨a, ha⟩ := Option.isSome_iff_exists.1 ha
    obtain ⟨f, hf, ha⟩ := Option.bind_eq_some_iff.1 ha
    exact hp f hf (Option.isSome_iff_exists.2 ⟨a, ha⟩)
  · rintro ⟨hd, hp⟩
    exact ⟨hd, fun f hf ha => hp (by simpa [State.ownership, hf] using ha)⟩

/-! ### The moves -/

namespace Ownership.Ok

variable {o : Ownership}

theorem no_provisional (h : o.Ok) (hm : o.mode ≠ .unaddressed) : ¬ o.provisional.isSome = true :=
  fun hp => hm (h.provisional_ok hp)

/-- The frame in passage leaves, or another one is opened. -/
theorem frameGone (h : o.Ok) : Ok { o with provisional := none } :=
  { h with provisional_ok := nofun }

/-- R133. -/
theorem provisionalTaken (h : o.Ok) (hm : o.mode = .unaddressed) (p : Option Byte) : Ok { o with provisional := p } :=
  { h with provisional_ok := fun _ => hm }

/-- R134: no pin is decided by the mode before or after. -/
theorem addressTaken (h : o.Ok) (hm : o.mode = .unaddressed) : Ok { o with mode := .standby, provisional := none } where
  decided n := by simpa [source, hm] using h.decided n
  provisional_ok := nofun

end Ownership.Ok

/-- The provisional address of the ownership is that of the frame in passage. -/
theorem State.ownership_of_frame {f : Frame} {s : State} (hf : s.fp.frame = some f) :
    { s.ownership with provisional := f.provisional } = s.ownership := by
  simp [State.ownership, hf]

/-- R58: deciding every pin anew leaves each owner the deciding source. -/
theorem State.redecideWith_owned {s : State} (ch : Pin → Bool)
    (hp : (s.fp.frame.bind Frame.provisional).isSome = true → s.mc.mode = .unaddressed) :
    (s.redecideWith ch).ownership.Ok where
  decided n := by
    rw [State.source_ownership, State.deciding_redecideWith]
    exact State.redecideWith_owner ch s n
  provisional_ok := by simpa [State.ownership] using hp

theorem State.redecide_owned {s : State}
    (hp : (s.fp.frame.bind Frame.provisional).isSome = true → s.mc.mode = .unaddressed) : s.redecide.ownership.Ok :=
  State.redecideWith_owned _ hp

end Sys2Proof.Machine
end

section
/-! SUPPORT. Each operation of the node keeps each pin's owner the deciding source. -/

namespace Sys2Proof.Machine

/-! ### Operations that leave the ownership alone, but for the provisional address of the frame in passage -/

@[simp] theorem State.ownership_poisonIfExcess (f : Frame) (s : State) :
    (s.poisonIfExcess f).ownership = s.ownership := by
  unfold State.poisonIfExcess
  split
  · split <;> rfl
  · rfl

@[simp] theorem State.ownership_tooLong (f : Frame) (s : State) :
    (s.tooLong f).ownership = { s.ownership with provisional := none } :=
  show { (s.poisonIfExcess f).ownership with provisional := none } = _ by rw [State.ownership_poisonIfExcess]

@[simp] theorem State.ownership_passSymbols (f : Frame) (arr : List Sym) (out : List OutSym) (s : State) :
    (s.passSymbols f arr out).ownership = { s.ownership with provisional := f.provisional } := rfl

@[simp] theorem State.ownership_bindFrame (L : Nat) (f : Frame) (s : State) :
    (s.bindFrame L f).ownership = { s.ownership with provisional := f.provisional } := by
  simp only [State.bindFrame]
  split <;> split <;> rfl

@[simp] theorem State.ownership_capture (f : Frame) (r : Row) (s : State) :
    (s.capture f r).ownership = s.ownership := by
  unfold State.capture
  split <;> rfl

@[simp] theorem State.ownership_takeSample (raw : PinWord) (s : State) :
    (s.takeSample raw).ownership = s.ownership := by
  unfold State.takeSample
  rw [foldl_deliverEdge_frame fun n => raw.getLsbD n.val]
  rfl

@[simp] theorem State.ownership_fillStrobe (o : StrobeSet) (s : State) : (fillStrobe o s).ownership = s.ownership := by
  unfold fillStrobe
  split <;> rfl

@[simp] theorem State.ownership_takeAck (a : Option Half) (s : State) : (takeAck a s).ownership = s.ownership := by
  cases a <;> rfl

/-- The STAGED bank decides no pin. -/
theorem State.ownership_banks {s : State} {u : BankUnit} (h : u.activeBank = s.banks.activeBank) :
    State.ownership { s with banks := u } = s.ownership := by
  simp only [State.ownership, h]

theorem State.ownership_storeRows (t : TableId) (i : Nat) (rs : List Row) (s : State) :
    (s.storeRows t i rs).ownership = s.ownership :=
  State.ownership_banks (u := { s.banks.setStaged _ with armed := none }) (BankUnit.activeBank_setStaged s.banks _)

theorem State.ownership_cloneDone (s : State) : s.cloneDone.ownership = s.ownership :=
  State.ownership_banks (u := { s.banks.setStaged _ with longOp := .idle }) (BankUnit.activeBank_setStaged s.banks _)

/-! ### Operations that decide the pins anew -/

section
variable {f : Frame} {s : State}

theorem State.enterFallback_owned (h : s.ownership.Ok) (hm : s.mc.mode = .running) (c : Cause) :
    (s.enterFallback c).ownership.Ok := by
  have hp : ¬ s.ownership.provisional.isSome = true := h.no_provisional (by simp [State.ownership, hm])
  rw [State.enterFallback_eq]
  exact State.redecide_owned fun ha => absurd ha hp

theorem State.leaveFallback_owned (h : s.ownership.Ok) (hm : s.mc.mode = .fallback) :
    s.leaveFallback.ownership.Ok := by
  have hp : ¬ s.ownership.provisional.isSome = true := h.no_provisional (by simp [State.ownership, hm])
  rw [State.leaveFallback_eq]
  exact State.redecide_owned fun ha => absurd ha hp

/-- R136: a switch leaves an UNADDRESSED node so. -/
theorem State.switchTo_owned (h : s.ownership.Ok) (g : Byte) : (s.switchTo g).ownership.Ok := by
  rw [State.switchTo_eq]
  refine State.redecideWith_owned _ fun hp => ?_
  have hm : s.mc.mode = .unaddressed := h.provisional_ok hp
  simp [State.switched, switchMode, hm]

theorem State.releaseAll_owned
    (h : (s.fp.frame.bind Frame.provisional).isSome = true → s.mc.mode = .unaddressed) : s.releaseAll.ownership.Ok :=
  State.redecide_owned h

/-- R119: outputs that enter the current tier leave every pin decided. -/
theorem enterOutputs_owned (h : s.ownership.Ok) (o : StrobeSet) : (enterOutputs o s).ownership.Ok where
  decided n := (enterOutputs_decided o h.decided n).1
  provisional_ok := by
    rw [enterOutputs_frame]
    exact h.provisional_ok

/-! ### The header and the next-address field -/

theorem State.strobeHeader_owned (h : s.ownership.Ok) (hd : Header) : (s.strobeHeader hd).ownership.Ok := by
  unfold State.strobeHeader State.applyStrobe
  split
  · split
    · exact h
    · exact enterOutputs_owned h _
  · exact h

theorem State.processHeader_owned (h : s.ownership.Ok) (hf : s.ownership.provisional = f.provisional) (hd : Header) :
    (s.processHeader hd f).ownership.Ok := by
  have framed : Ownership.Ok { s.ownership with provisional := f.provisional } := hf ▸ h
  unfold State.processHeader
  split
  · exact framed
  · split
    · exact framed
    · have hp : (s.switchTo hd.gen).ownership.provisional = f.provisional := hf
      rw [State.ownership_bindFrame, ← hp]
      exact State.switchTo_owned h hd.gen
    · rwa [State.ownership_bindFrame]
    · exact framed

theorem State.handOn_owned (h : s.ownership.Ok) (hf : s.ownership.provisional = f.provisional) (hd : Header) :
    (s.handOn hd f).ownership.Ok := by
  have framed : (s.setFrame (some f)).ownership.Ok :=
    show Ownership.Ok { s.ownership with provisional := f.provisional } from hf ▸ h
  unfold State.handOn
  split
  · exact State.processHeader_owned h hf hd
  · exact State.strobeHeader_owned framed hd
  · exact framed

theorem State.headerArrives_owned (h : s.ownership.Ok) (hf : s.fp.frame = some f) (rest : List Sym) :
    (s.headerArrives f rest).ownership.Ok := by
  have hp : s.ownership.provisional = f.provisional := by simp [State.ownership, hf]
  unfold State.headerArrives
  split
  · rw [State.badHeader, State.ownership_passSymbols]
    exact hp ▸ h
  · unfold State.goodHeader
    exact State.handOn_owned (by exact h) (by exact hp) _

theorem State.fieldArrives_owned (h : s.ownership.Ok) (hf : s.fp.frame = some f) (rest : List Sym) :
    (s.fieldArrives f rest).ownership.Ok := by
  unfold State.fieldArrives
  dsimp only
  split
  · rename_i hc
    exact h.provisionalTaken hc.1 _
  · rwa [State.ownership_passSymbols, State.ownership_of_frame hf]

theorem State.frameSymbol_owned (h : s.ownership.Ok) (hf : s.fp.frame = some f) (x : Sym) :
    (s.frameSymbol f x).ownership.Ok := by
  unfold State.frameSymbol
  split
  · rw [State.ownership_tooLong]
    exact h.frameGone
  · simpa [State.ownership_of_frame hf] using h

/-! ### Segments -/

theorem State.passSegment_owned (h : s.ownership.Ok) (hf : s.fp.frame = some f) (arr : List Sym) (out : List OutSym) :
    (s.passSegment f arr out).ownership.Ok := by
  unfold State.passSegment
  rw [State.ownership_passSymbols]
  exact State.ownership_of_frame hf ▸ h

theorem State.badSegmentArrives_owned (h : s.ownership.Ok) (hf : s.fp.frame = some f) (rest : List Sym) :
    (s.badSegmentArrives f rest).ownership.Ok := by
  unfold State.badSegmentArrives
  rw [State.ownership_passSymbols]
  split <;> exact State.ownership_of_frame hf ▸ h

theorem State.emptyArrives_owned (h : s.ownership.Ok) (hf : s.fp.frame = some f) (bytes : List Byte) :
    (s.emptyArrives f bytes).ownership.Ok := by
  unfold State.emptyArrives
  split
  · split
    · exact State.passSegment_owned (s := s.setSlot .idle) h hf _ _
    · exact State.passSegment_owned h hf _ _
  · exact State.passSegment_owned h hf _ _

end

/-! ### Requests -/

theorem noPayload_owned {rq : Request} {perform : State → Answer × State} {s : State} (h : s.ownership.Ok)
    (hp : (perform s).2.ownership.Ok) : (noPayload rq perform s).2.ownership.Ok := by
  unfold noPayload
  split
  · exact h
  · exact hp

/-- Each of the fourteen executions keeps each owner the deciding source: those that touch what decides a pin decide
every pin anew. -/
theorem Execution.owned {rq : Request} {perform : State → Answer × State} (hx : Execution rq perform) {s : State}
    (h : s.ownership.Ok) : (perform s).2.ownership.Ok := by
  cases hx with
  | openView =>
    unfold Machine.openView
    repeat' split
    all_goals exact h
  | readRows =>
    unfold Machine.readRows
    dsimp only
    repeat' split
    all_goals exact h
  | writeRows =>
    unfold Machine.writeRows
    dsimp only
    iterate 3
      split
      · exact h
    exact (State.ownership_storeRows _ _ _ s).symm ▸ h
  | clone => exact noPayload_owned h h
  | arm =>
    unfold armRequest
    dsimp only
    repeat' split
    all_goals exact h
  | disarm => exact noPayload_owned h h
  | forcePin =>
    unfold Machine.forcePin
    repeat' split
    case h_2.isTrue => exact State.redecide_owned h.provisional_ok
    all_goals exact h
  | releasePin =>
    unfold Machine.releasePin
    split
    · exact h
    split
    · exact State.releaseAll_owned h.provisional_ok
    split
    · exact State.redecide_owned h.provisional_ok
    · exact h
  | enterFallback =>
    refine noPayload_owned h ?_
    unfold enterFallbackRequest
    split
    next hr => exact State.enterFallback_owned h hr _
    · split <;> exact h
  | resume =>
    refine noPayload_owned h ?_
    unfold resumeRequest
    split
    next hf => exact State.leaveFallback_owned h hf
    · exact h
  | releaseAddress =>
    refine noPayload_owned h ?_
    unfold Machine.releaseAddress
    split
    · exact State.releaseAll_owned fun _ => rfl
    · exact h
  | restart => exact noPayload_owned h h
  | clearStats => exact noPayload_owned h h
  | clearCause => exact noPayload_owned h h

section
variable {f : Frame} {s : State}

theorem handleRequest_owned (h : s.ownership.Ok) (code : Byte) (rq : Request) :
    (handleRequest code rq s).2.ownership.Ok :=
  (handleRequest_handles code rq).keeps (P := fun t => t.ownership.Ok) h (fun _ _ hu => hu)
    (fun _ _ hu _ => hu) (fun _ _ hu => hu) (fun _ hx _ => hx.owned (s := s.countConsumed) h)

theorem State.requestArrives_owned (h : s.ownership.Ok) (hf : s.fp.frame = some f) (bytes : List Byte) (code : Byte)
    (rq : Request) : (s.requestArrives f bytes rq (handleRequest code rq)).ownership.Ok := by
  unfold State.requestArrives
  split
  · have ht := handleRequest_owned h code rq
    have hk := (handleRequest_requestKeeps code rq s).fp
    split
    all_goals
      rename_i hr
      rw [hr] at ht hk
      exact State.passSegment_owned ht (hk ▸ hf) _ _
  · exact State.passSegment_owned h hf _ _

theorem State.segmentArrives_owned (h : s.ownership.Ok) (hf : s.fp.frame = some f) (rest : List Sym) :
    (s.segmentArrives f rest).ownership.Ok := by
  unfold State.segmentArrives
  dsimp only
  split
  · exact State.badSegmentArrives_owned h hf _
  split
  · exact State.emptyArrives_owned h hf _
  split
  · exact State.requestArrives_owned h hf _ _ _
  · exact State.passSegment_owned h hf _ _

/-! ### Frame ends -/

theorem goodFrameAtMode_owned (h : s.ownership.Ok) (policy : Row) : (goodFrameAtMode policy s).ownership.Ok := by
  unfold goodFrameAtMode
  split
  · exact h
  split
  next hf => exact State.leaveFallback_owned h hf.1
  · exact h

theorem applyFrame_owned (h : s.ownership.Ok) (policy : Row) : (applyFrame policy s).ownership.Ok := by
  refine goodFrameAtMode_owned ?_ policy
  rw [State.ownership_takeAck]
  show (State.ownership (ite _ _ _)).Ok
  split
  · rwa [State.ownership_fillStrobe]
  · exact enterOutputs_owned h _

theorem deliverVerdict_owned (h : s.ownership.Ok) (hf : s.fp.frame = some f) {u : State}
    (hu : u.ownership = { s.ownership with provisional := none }) (t : FrameType) (good : Bool) :
    (deliverVerdict f t good u).ownership.Ok := by
  have hok : u.ownership.Ok := hu ▸ h.frameGone
  cases t with
  | process =>
    show (State.ownership (ite _ _ _)).Ok
    split
    · exact applyFrame_owned hok _
    · exact hok
  | strobe => exact hok
  | address =>
    unfold deliverVerdict takeAddress
    dsimp only
    split
    · split
      · exact hok
      · rename_i a ha
        have hm : s.ownership.mode = .unaddressed := h.provisional_ok (by simp [State.ownership, hf, ha])
        have taken := h.addressTaken hm
        exact (show Ownership.Ok { u.ownership with mode := .standby } by rw [hu]; exact taken)
    · exact hok

theorem State.endFrame_owned (h : s.ownership.Ok) (hf : s.fp.frame = some f) : (s.endFrame f).ownership.Ok := by
  unfold State.endFrame
  split
  · exact h.frameGone
  · exact h.frameGone
  · exact deliverVerdict_owned h hf rfl _ _

/-! ### The symbols of the IN link -/

theorem State.symbolInFrame_owned (h : s.ownership.Ok) (hf : s.fp.frame = some f) (x : Sym) :
    (s.symbolInFrame f x).ownership.Ok := by
  unfold State.symbolInFrame
  split
  · exact State.headerArrives_owned h hf _
  split
  · exact State.fieldArrives_owned h hf _
  split
  · exact State.segmentArrives_owned h hf _
  · exact State.frameSymbol_owned h hf x

theorem State.startArrives_owned (h : s.ownership.Ok) : s.startArrives.ownership.Ok := by
  unfold State.startArrives
  dsimp only
  split
  · split
    · exact h
    · split
      · exact h.frameGone
      · exact h.frameGone
  · exact h

theorem State.idleArrives_owned (h : s.ownership.Ok) (mark : Option Byte) (out : OutSym) :
    (s.idleArrives mark out).ownership.Ok := by
  unfold State.idleArrives
  dsimp only
  split
  · split
    · rename_i hf
      exact State.symbolInFrame_owned (s := s.validLink true) h hf _
    · exact h
  · exact h

theorem State.dataArrives_owned (h : s.ownership.Ok) (b : Byte) : (s.dataArrives b).ownership.Ok := by
  unfold State.dataArrives
  dsimp only
  split
  · split
    · rename_i hf
      exact State.symbolInFrame_owned (s := s.validLink false) h hf _
    · exact h
  · exact h

theorem State.endArrives_owned (h : s.ownership.Ok) : s.endArrives.ownership.Ok := by
  unfold State.endArrives
  dsimp only
  split
  · split
    · rename_i hf
      exact State.endFrame_owned (s := s.validLink false) h hf
    · exact h
  · exact h

theorem State.abortArrives_owned (h : s.ownership.Ok) : s.abortArrives.ownership.Ok := by
  unfold State.abortArrives
  dsimp only
  split
  · split
    · exact h.frameGone
    · exact h
  · exact h

theorem State.symbolArrives_owned (h : s.ownership.Ok) (sym : Symbol) : (s.symbolArrives sym).ownership.Ok := by
  cases sym with
  | data b => exact State.dataArrives_owned h b
  | startDelimiter => exact State.startArrives_owned h
  | endDelimiter => exact State.endArrives_owned h
  | abortDelimiter => exact State.abortArrives_owned h
  | plainIdle => exact State.idleArrives_owned h _ _
  | breakIdle a => exact State.idleArrives_owned h _ _

theorem State.errorArrives_owned (h : s.ownership.Ok) : s.errorArrives.ownership.Ok := by
  unfold State.errorArrives
  dsimp only
  split
  · exact h
  · exact h
  · split
    · rename_i hf
      exact State.symbolInFrame_owned h hf _
    · exact h

theorem State.abortAtLinkDown_owned (h : s.ownership.Ok) : s.abortAtLinkDown.ownership.Ok := by
  unfold State.abortAtLinkDown
  split
  · exact h
  · exact h.frameGone

theorem State.linkDown_owned (h : s.ownership.Ok) : s.linkDown.ownership.Ok := by
  have ht := State.abortAtLinkDown_owned h
  unfold State.linkDown State.linkLost
  dsimp only
  split
  · rename_i hm
    exact State.enterFallback_owned (by exact ht) hm _
  · exact ht

theorem State.abortFor_owned (h : s.ownership.Ok) (cause : AbortCause) : (s.abortFor cause f).ownership.Ok := by
  cases cause with
  | linkDown => exact State.abortAtLinkDown_owned h
  | abortDelimiter => exact h.frameGone
  | startDelimiter => exact h.frameGone
  | tooLong =>
    unfold State.abortFor
    dsimp only
    split
    · rw [State.ownership_tooLong]
      exact h.frameGone
    · exact h

theorem State.takeValue_owned (h : s.ownership.Ok) (hf : s.fp.frame = some f) (r : Row) :
    (s.takeValue f r).ownership.Ok := by
  unfold State.takeValue
  split
  · exact h
  · show Ownership.Ok { s.ownership with provisional := f.provisional }
    rwa [State.ownership_of_frame hf]

end

/-! ### Resets and the units -/

/-- R75: in the reset values no claimant is active, and every pin's owner is IDLE. -/
theorem State.beginReset_owned (cause : ResetCause) (hold : ResetHold) (s : State) :
    (s.beginReset cause hold).ownership.Ok where
  decided n := by
    simp [State.ownership, State.beginReset, State.reset, PinResolver.reset, Ownership.source, ModeController.reset,
      BankUnit.reset, BankUnit.activeBank, BankUnit.bank, Bank.zero, Row.zero, Row.claimants, claimOwner]
  provisional_ok := nofun

/-- Units that are active exactly where they were claim the same pins. -/
theorem State.ownership_pg {s : State} {pg : Vector PulseGen 4} (h : ∀ n : Unit4, pg[n].active = s.pg[n].active) :
    State.ownership { s with pg := pg } = s.ownership := by
  simp only [State.ownership, claimOwner_congr h]

theorem PulseGen.active_tick (u : PulseGen) (atSwitch : Bool) : (u.tick atSwitch).active = u.active := by
  cases hu : u.state with
  | off | stopped => simp [PulseGen.tick, PulseGen.active, hu]
  | running p => cases ha : atSwitch && u.restarted <;> simp [PulseGen.tick, PulseGen.active, hu, ha]

/-- R114: only a running unit has its period start due. -/
theorem PulseGen.active_of_periodDue {u : PulseGen} (h : u.periodDue = true) : u.active = true := by
  cases hu : u.state with
  | off | stopped => simp [PulseGen.periodDue, hu] at h
  | running p => simp [PulseGen.active, hu]

theorem active_set {pg : Vector PulseGen 4} {n : Unit4} {u : PulseGen} (h : u.active = pg[n].active) (k : Unit4) :
    (pg.set n u)[k].active = pg[k].active := by
  rw [Fin.getElem_fin, Vector.getElem_set]
  split
  · rename_i hn
    obtain rfl : n = k := Fin.ext hn
    exact h
  · rfl

/-! ### The commands -/

/-- Whatever a command does keeps each owner the deciding source. -/
theorem ownership_keptByActions : KeptByActions fun s => s.ownership.Ok where
  beginReset s cause hold _ := State.beginReset_owned cause hold s
  leaveReset _ _ h _ := h
  holdMoves _ _ h _ := h
  symbolArrives _ sym h _ := State.symbolArrives_owned h sym
  errorArrives _ h _ := State.errorArrives_owned h
  linkRises _ h _ := h
  linkDown _ h _ _ := State.linkDown_owned h
  headerArrives _ _ rest h hf _ := State.headerArrives_owned h hf.2 rest
  fieldArrives _ _ rest h hf _ := State.fieldArrives_owned h hf.2 rest
  badSegmentArrives _ _ rest h hf _ := State.badSegmentArrives_owned h hf.2 rest
  emptyArrives _ _ _ h hf _ := State.emptyArrives_owned h hf.2 _
  requestArrives _ _ code rq h hf _ := State.requestArrives_owned h hf.2 _ code rq
  capture s f _ row h _ _ _ := (State.ownership_capture f (s.boundRow f row) s).symm ▸ h
  takeValue _ _ _ _ h hf _ _ := State.takeValue_owned h hf.2 _
  excessByte s _ _ h hf _ := State.frameSymbol_owned (s := s.validLink false) h hf.2 _
  endFrame s _ h hf := State.endFrame_owned (s := s.validLink false) h hf.2
  abortFor _ _ cause h _ := State.abortFor_owned h cause
  delimiterLeaves s x rest h _ _ := by
    have hm : (s.mc.frameLeft x).mode = s.mc.mode := congrArg Control.mode (State.control_frameLeft s.link x s)
    exact (show Ownership.Ok { s.ownership with mode := (s.mc.frameLeft x).mode } from hm.symm ▸ h)
  sample s field h _ := (State.ownership_takeSample (s.rawLevels field) s).symm ▸ h
  expiry s h hd := State.enterFallback_owned h (State.running_of_expiryDue hd) _
  periodStart s n h _ hd :=
    (State.ownership_pg (active_set (u := s.pg[n].start) (PulseGen.active_of_periodDue hd).symm)).symm ▸ h
  widthReached s n h _ _ :=
    (State.ownership_pg (active_set (n := n) (u := { s.pg[n] with outActive := false }) rfl)).symm ▸ h
  cloneDone s _ _ h _ _ _ := (State.ownership_cloneDone s).symm ▸ h
  armed _ _ _ _ h _ _ _ _ := h
  invalid _ _ _ _ _ h _ _ _ _ := h
  tick s atSwitch h _ := by
    have hg : ∀ n : Unit4, (Vector.ofFn fun k : Unit4 => s.pg[k].tick atSwitch)[n].active = s.pg[n].active :=
      fun n => by simp [PulseGen.active_tick]
    exact (State.ownership_pg hg).symm ▸ h

/-- Settles O56: the owners of a node are decided as those of its ownership are, which whatever a command does keeps. -/
theorem ownersStayDecided : Obligations.OwnersStayDecided := by
  have kept : KeptByEveryStep fun s => s.ownership.Ok := ownership_keptByActions.step fun _ _ h => h
  intro s t h hst
  exact t.ownersDecided_iff.2 (kept s t (s.ownersDecided_iff.1 h) hst)

end Sys2Proof.Machine
end

section
/-! SUPPORT. A node held in reset, the frame watch timer, the deciding source of a pin and the state its owner gives. -/

namespace Sys2Proof.Machine

/-! ### A node held in reset -/

/-- R75. -/
theorem State.pinState_held {s : State} (h : s.held = true) (n : Pin) : s.pinState n = .highz :=
  if_pos h

/-- R146: a held node takes no request. -/
theorem State.withRequest_held {s : State} (h : s.held = true) (code : Byte) (rq : Request)
    (handle : State → Option Response × State) : s.withRequest code rq handle = s :=
  if_pos h

/-- R146: whatever request comes to a held node, the state stays. -/
theorem exec_anyRequest_held {c : Instr} {code : Byte} {rq : Request} {s : State} (hc : anyRequest c = some (code, rq))
    (h : s.held = true) : exec c s = .next s := by
  rw [exec_anyRequest hc, State.withRequest_held h]

/-- Settles O6: requests find the node held, symbols and frame steps are not taken, and nothing of the node's own is
due. -/
theorem heldNodeTakesNothing : Obligations.HeldNodeTakesNothing := by
  intro s h
  refine ⟨State.pinState_held h, fun c hpower hpin hend hsupply hnrst => ?_⟩
  cases c with
  | powerReset => exact absurd rfl hpower
  | pinReset => exact absurd rfl hpin
  | endOfReset field => exact absurd rfl (hend field)
  | supplyGood => exact absurd rfl hsupply
  | nrstRises => exact absurd rfl hnrst
  | identify | readStatus | readOwners | openView | readRows | writeRows | clone | arm | disarm | forcePin
  | releasePin | enterFallback | resume | releaseAddress | restart | clearStats | clearCause =>
    exact exec_anyRequest_held rfl h
  | badOpcode code rq =>
    by_cases hk : knownCodes.contains code
    · exact congrArg _ (if_pos hk)
    · exact exec_anyRequest_held (if_neg hk) h
  | validSymbol | symbolError | startDelimiter | frameHeader | addressField | badSegment | emptySegment | outCapture
  | inValueTaken | excessDataByte | frameEnd | frameAbort | delimiterLeavesOut | cloneComplete | validationComplete
  | tickIncrement =>
    exact congrArg _ (if_pos h)
  | softReset => exact congrArg _ (if_neg (by simp [State.softResetDue, h]))
  | linkUp => exact congrArg _ (if_neg (by simp [State.linkUpDue, h]))
  | sample => exact congrArg _ (if_neg (by simp [State.sampleDue, h]))
  | frameWatchExpiry => exact congrArg _ (if_neg (by simp [State.expiryDue, h]))
  | linkDownEvent | periodStart | widthReached => exact congrArg _ (if_neg (by simp [h]))

/-! ### The frame watch timer -/

/-- R138: the timer of a RUNNING node has run out. -/
theorem exec_frameWatchExpiry {s : State} (hh : s.held = false) (hm : s.mc.mode = .running)
    (ht : s.mc.timer = some 0) : exec .frameWatchExpiry s = .next (s.enterFallback .timeout) :=
  congrArg _ (if_pos (by simp [State.expiryDue, hh, hm, ht]))

/-- Settles O49: the expiry is an entry to FALLBACK. -/
theorem frameWatchExpiryEntersFallback : Obligations.FrameWatchExpiryEntersFallback :=
  fun s hh hm ht =>
    ⟨_, exec_frameWatchExpiry hh hm ht, s.enterFallback_spec .timeout, s.enterFallback_frame .timeout⟩

/-! ### The deciding source of a pin -/

/-- R57: a unit is active while it is RUNNING. -/
theorem PulseGen.active_iff {u : PulseGen} : u.active = true ↔ ∃ p, u.state = .running p := by
  cases hu : u.state <;> simp [PulseGen.active, hu]

/-- R56, R57: the claimant codes and the active output claimants they name. -/
theorem claimOwner_eq_some {pg : Vector PulseGen 4} {c : Byte} {o : Owner} : claimOwner pg c = some o ↔
    c = 1 ∧ o = .direct ∨
      ∃ k : Unit4, c = BitVec.ofNat 8 (2 + k.val) ∧ o = .pulse k ∧ ∃ p, pg[k].state = .running p := by
  simp only [← PulseGen.active_iff]
  constructor
  · intro h
    unfold claimOwner at h
    split at h
    next hc => exact .inl ⟨hc, (Option.some.inj h).symm⟩
    iterate 4
      split at h
      next hc =>
        obtain ⟨ha, ho⟩ := Option.ite_none_right_eq_some.1 h
        refine .inr ⟨_, ?_, (Option.some.inj ho).symm, ha⟩
        exact hc
    exact nomatch h
  · rintro (⟨rfl, rfl⟩ | ⟨k, rfl, rfl, ha⟩)
    · rfl
    · match k with
      | 0 | 1 | 2 | 3 => exact if_pos ha

section
variable {s : State} {n : Pin}

/-- R61: a force record decides its pin. -/
theorem State.deciding_forced (h : s.pins.force[n] ≠ none) : s.deciding n = .force :=
  if_pos (Option.isSome_iff_ne_none.2 h)

theorem State.deciding_unforced (hf : s.pins.force[n] = none) (hm : s.mc.mode ≠ .fallback) :
    s.deciding n = ((s.pinRow n).claimants.findSome? (claimOwner s.pg)).getD .idle := by
  simp only [State.deciding, hf, Option.isSome_none, Bool.false_eq_true, if_false, if_neg hm]

/-- R58: the first active output claimant of the row decides the pin. -/
theorem State.deciding_claimed (hf : s.pins.force[n] = none) (hm : s.mc.mode ≠ .fallback) {before after : List Byte}
    {c : Byte} {o : Owner} (hl : (s.pinRow n).claimants = before ++ c :: after) (hc : claimOwner s.pg c = some o)
    (hb : ∀ d ∈ before, claimOwner s.pg d = none) : s.deciding n = o := by
  rw [State.deciding_unforced hf hm, hl, List.findSome?_append, List.findSome?_eq_none_iff.2 hb, Option.none_or,
    List.findSome?_cons, hc]
  rfl

theorem State.deciding_unclaimed (hf : s.pins.force[n] = none) (hm : s.mc.mode ≠ .fallback)
    (hl : ∀ d ∈ (s.pinRow n).claimants, claimOwner s.pg d = none) : s.deciding n = .idle := by
  rw [State.deciding_unforced hf hm, List.findSome?_eq_none_iff.2 hl, Option.getD_none]

/-! ### The state an owner gives -/

/-- Table 1-3. -/
theorem Row.idleState_eq {r : Row} {st : PinState} (h : r.b3 = 0 ∧ st = .highz ∨ r.b3 = 1 ∧ st = .pullup ∨
    r.b3 = 2 ∧ st = .low ∨ r.b3 = 3 ∧ st = .high) : r.idleState = st := by
  rcases h with ⟨hb, rfl⟩ | ⟨hb, rfl⟩ | ⟨hb, rfl⟩ | ⟨hb, rfl⟩ <;> simp [Row.idleState, hb]

theorem State.fallbackState_hold (hb : (s.pinRow n).b4 = 0) {st : PinState} (hs : s.pins.held[n] = some st) :
    s.fallbackState n = st := by
  simp [State.fallbackState, hb, hs]

theorem State.fallbackState_idle (hb : (s.pinRow n).b4 = 1) : s.fallbackState n = (s.pinRow n).idleState := by
  simp [State.fallbackState, hb]

theorem State.fallbackState_low (hb : (s.pinRow n).b4 = 2) : s.fallbackState n = .low := by
  simp [State.fallbackState, hb]

theorem State.fallbackState_high (hb : (s.pinRow n).b4 = 3) : s.fallbackState n = .high := by
  simp [State.fallbackState, hb]

theorem State.pinState_force (hh : s.held = false) (ho : s.pins.owner[n] = .force) {st : ForceState}
    (hf : s.pins.force[n] = some st) : s.pinState n = st.pinState := by
  simp [State.pinState, hh, ho, hf]

theorem State.pinState_fallback (hh : s.held = false) (ho : s.pins.owner[n] = .fallback) :
    s.pinState n = s.fallbackState n := by
  simp [State.pinState, hh, ho]

theorem State.pinState_direct (hh : s.held = false) (ho : s.pins.owner[n] = .direct) :
    s.pinState n = .ofLevel (s.store.dout.getLsbD n.val) := by
  simp [State.pinState, hh, ho]

theorem State.pinState_pulse (hh : s.held = false) {k : Unit4} (ho : s.pins.owner[n] = .pulse k) :
    s.pinState n = .ofLevel (s.pulseLevel k) := by
  simp [State.pinState, hh, ho]

theorem State.pinState_idle (hh : s.held = false) (ho : s.pins.owner[n] = .idle) :
    s.pinState n = (s.pinRow n).idleState := by
  simp [State.pinState, hh, ho]

/-- R112: the output is HIGH when it stands at the active level of an active-high unit, or at the inactive level of an
active-low one. -/
theorem State.pulseLevel_iff (s : State) (k : Unit4) :
    s.pulseLevel k = true ↔ ((s.banks.activeBank.pgRow k).b1 = 1 ↔ s.pg[k].outActive = true) := by
  rw [State.pulseLevel, beq_iff_eq, Bool.eq_iff_iff, Row.activeHigh, beq_iff_eq]

end

/-- Settles O41: the claims of the list are those of `claimOwner`, and each owner gives its state. -/
theorem pinsFollowPrecedence : Obligations.PinsFollowPrecedence := by
  intro s n r list claims inIdle
  have claimed : ∀ {c o}, claims c o → claimOwner s.pg c = some o := claimOwner_eq_some.2
  have unclaimed : ∀ {l : List Byte}, (∀ d ∈ l, ∀ q, ¬ claims d q) → ∀ d ∈ l, claimOwner s.pg d = none :=
    fun hl d hd => Option.eq_none_iff_forall_ne_some.2 fun q hq => hl d hd q (claimOwner_eq_some.1 hq)
  refine ⟨State.deciding_forced, fun hf hm => ?_, fun hf hm => ⟨fun before c after o hl hc hb => ?_, fun hl => ?_⟩,
    fun hh => ⟨fun ho st hf => ?_, fun ho => ⟨fun hb st hs => ?_, fun hb st hi => ?_, fun hb => ?_, fun hb => ?_⟩,
      fun ho => ?_, fun k ho => ?_, fun ho st hi => ?_⟩⟩
  · rw [State.deciding_fallback hm, hf]
    rfl
  · exact State.deciding_claimed hf hm hl (claimed hc) (unclaimed hb)
  · exact State.deciding_unclaimed hf hm (unclaimed hl)
  · rw [State.pinState_force hh ho hf]
    cases st <;> rfl
  · rw [State.pinState_fallback hh ho, State.fallbackState_hold hb hs]
  · rw [State.pinState_fallback hh ho, State.fallbackState_idle hb]
    exact Row.idleState_eq hi
  · rw [State.pinState_fallback hh ho, State.fallbackState_low hb]
  · rw [State.pinState_fallback hh ho, State.fallbackState_high hb]
  · exact State.pinState_direct hh ho
  · rw [State.pinState_pulse hh ho, PinState.ofLevel]
    exact ite_congr (propext (s.pulseLevel_iff k)) (fun _ => rfl) fun _ => rfl
  · rw [State.pinState_idle hh ho]
    exact Row.idleState_eq hi

end Sys2Proof.Machine
end

section
/-! SUPPORT. The requests that change the force records, and those that change the mode. -/

namespace Sys2Proof.Machine

/-! ### Force records -/

/-- The node with these force records, and its pins decided anew (R58, R62). -/
def State.withForce (v : Vector (Option ForceState) 24) (s : State) : State :=
  State.redecide { s with pins := { s.pins with force := v } }

@[simp] theorem State.withForce_force (v : Vector (Option ForceState) 24) (s : State) :
    (s.withForce v).pins.force = v := by
  simp [State.withForce]

/-- New force records move the force records, the owners and the settle counts only. -/
theorem State.withForce_frame (v : Vector (Option ForceState) 24) (s : State) :
    s.withForce v = { s with
      pins := { s.pins with force := (s.withForce v).pins.force, owner := (s.withForce v).pins.owner }
      sampler := { s.sampler with settle := (s.withForce v).sampler.settle } } := by
  dsimp only [State.withForce, State.redecide, State.redecideWith]

/-- R70, R72: new force records, at a node whose pins stand as those of `s`, give a settle mark where an owner
changes. -/
theorem State.withForce_decided {s t : State} (v : Vector (Option ForceState) 24) (hp : t.pins = s.pins)
    (hs : t.sampler = s.sampler) : DecidedAnew s (t.withForce v) :=
  State.redecide_decided (s := s) (t := { t with pins := { t.pins with force := v } }) (by exact hp ▸ rfl)
    (by exact hs ▸ rfl)

/-- One force record set. -/
theorem force_set (v : Vector (Option ForceState) 24) (p n : Pin) (x : Option ForceState) :
    (v.set p.val x)[n] = if n = p then x else v[n] := by
  rw [Fin.getElem_fin, Vector.getElem_set]
  have hn : (p.val = n.val) = (n = p) := propext ⟨fun h => Fin.ext h.symm, fun h => congrArg _ h.symm⟩
  exact ite_congr hn (fun _ => rfl) fun _ => rfl

/-! ### FORCE PIN and RELEASE PIN -/

/-- R63: the codes of the three states that can be forced. -/
theorem ForceState.ofCode_known {c : Byte} (h : c = 0 ∨ c = 2 ∨ c = 3) :
    ForceState.ofCode c = some (if c = 0 then .highz else if c = 2 then .low else .high) := by
  rcases h with rfl | rfl | rfl <;> rfl

theorem ForceState.ofCode_unknown {c : Byte} (h : ¬ (c = 0 ∨ c = 2 ∨ c = 3)) : ForceState.ofCode c = none := by
  obtain ⟨h0, h2, h3⟩ : c ≠ 0 ∧ c ≠ 2 ∧ c ≠ 3 := by simpa using h
  simp only [ForceState.ofCode, if_neg h0, if_neg h2, if_neg h3]

/-- R65: a policy row that permits force records. -/
theorem Row.permit_iff {r : Row} : r.permit = true ↔ r.b5 = 1 := beq_iff_eq

section
variable {rq : Request} {s : State}

theorem forcePin_badLength (h : rq.length ≠ 2) : forcePin rq s = (.plain stBadLength 0, s) :=
  if_pos fun hz => h (requestSize_eq_iff.1 hz)

/-- R63: a pin or a state code that names none. -/
theorem forcePin_range (h : rq.length = 2)
    (hr : 24 ≤ (requestByte rq 0).toNat ∨ ForceState.ofCode (requestByte rq 1) = none) :
    forcePin rq s = (.plain stRange 0, s) := by
  have hs : requestSize rq = 2 := requestSize_eq_iff.2 h
  unfold forcePin
  rw [if_neg (not_not_intro hs)]
  split
  · rename_i hp
    rw [hr.resolve_left (Nat.not_le_of_lt hp)]
  · rfl

/-- R63: neither STANDBY nor permit YES. -/
theorem forcePin_refused (h : rq.length = 2) (hp : (requestByte rq 0).toNat < 24) {st : ForceState}
    (hc : ForceState.ofCode (requestByte rq 1) = some st) (hn : ¬ (s.mc.mode = .standby ∨ s.policy.permit = true)) :
    forcePin rq s = (.plain stRefused 0, s) := by
  have hs : requestSize rq = 2 := requestSize_eq_iff.2 h
  unfold forcePin
  rw [if_neg (not_not_intro hs), dif_pos hp, hc]
  exact if_neg hn

/-- R63: the record of a pin is created or replaced. -/
theorem forcePin_forced (h : rq.length = 2) {p : Pin} (hp : (requestByte rq 0).toNat = p.val) {st : ForceState}
    (hc : ForceState.ofCode (requestByte rq 1) = some st) (hn : s.mc.mode = .standby ∨ s.policy.permit = true) :
    forcePin rq s = (.plain stOk 0, s.withForce (s.pins.force.set p.val (some st))) := by
  have hs : requestSize rq = 2 := requestSize_eq_iff.2 h
  unfold forcePin
  rw [if_neg (not_not_intro hs), dif_pos (hp ▸ p.isLt), hc]
  simp only [if_pos hn, hp]
  rfl

theorem releasePin_badLength (h : rq.length ≠ 1) : releasePin rq s = (.plain stBadLength 0, s) :=
  if_pos fun hz => h (requestSize_eq_iff.1 hz)

/-- R64: a pin code that names none, nor all. -/
theorem releasePin_range (h : rq.length = 1) (hp : 24 ≤ (requestByte rq 0).toNat) (ha : requestByte rq 0 ≠ 255) :
    releasePin rq s = (.plain stRange 0, s) := by
  have hs : requestSize rq = 1 := requestSize_eq_iff.2 h
  unfold releasePin
  rw [if_neg (not_not_intro hs), if_neg ha, dif_neg (Nat.not_lt_of_le hp)]

/-- R64: the record of a pin is removed. -/
theorem releasePin_released (h : rq.length = 1) {p : Pin} (hp : (requestByte rq 0).toNat = p.val) :
    releasePin rq s = (.plain stOk 0, s.withForce (s.pins.force.set p.val none)) := by
  have hs : requestSize rq = 1 := requestSize_eq_iff.2 h
  have ha : requestByte rq 0 ≠ 255 := fun he => by
    have := p.isLt
    rw [← hp, he] at this
    exact absurd this (by decide)
  unfold releasePin
  rw [if_neg (not_not_intro hs), if_neg ha, dif_pos (hp ▸ p.isLt)]
  simp only [hp]
  rfl

/-- R64: every record is removed. -/
theorem releasePin_all (h : rq.length = 1) (ha : requestByte rq 0 = 255) :
    releasePin rq s = (.plain stOk 0, s.withForce (Vector.replicate 24 none)) := by
  have hs : requestSize rq = 1 := requestSize_eq_iff.2 h
  unfold releasePin
  rw [if_neg (not_not_intro hs), if_pos ha]
  rfl

end

/-- Settles O42: what the checks turn away is recorded with the node as it was; what passes gives the node its new force
records and decides its pins. -/
theorem forceRequestsExecute : Obligations.ForceRequestsExecute := by
  intro f rq s b counted refused permitted known executes
  have hpermit : permitted ↔ s.mc.mode = .standby ∨ s.policy.permit = true := or_congr Iff.rfl Row.permit_iff.symm
  have forces : ∀ {c code perform force} (v : Vector (Option ForceState) 24),
      (∀ t, exec c t = .next (t.withRequest code rq (replayable code rq perform))) →
      perform counted = (.plain stOk 0, counted.withForce v) → (∀ n : Pin, v[n] = force n) →
      executes c code force := by
    intro c code perform force v hc hp hv hm
    refine ⟨counted.withForce v, ?_, fun n => ?_, State.withForce_decided v rfl rfl, State.withForce_frame v counted⟩
    · rw [hc, State.withRequest_records hm hp]
      rfl
    · rw [State.withForce_force, hv n]
  refine ⟨fun hl hm => ?_, fun hl hr hm => ?_, fun hl hp hk hn hm => ?_, fun p hl hp hk hn => ?_, fun hl hm => ?_,
    fun hl hp ha hm => ?_, fun p hl hp => ?_, fun hl ha => ?_⟩
  · exact congrArg _ (State.withRequest_records hm (forcePin_badLength hl))
  · exact congrArg _ (State.withRequest_records hm (forcePin_range hl (hr.imp_right ForceState.ofCode_unknown)))
  · exact congrArg _ (State.withRequest_records hm
      (forcePin_refused hl hp (ForceState.ofCode_known hk) (mt hpermit.2 hn)))
  · exact forces _ (fun _ => rfl) (forcePin_forced hl hp (ForceState.ofCode_known hk) (hpermit.1 hn))
      fun n => force_set _ p n _
  · exact congrArg _ (State.withRequest_records hm (releasePin_badLength hl))
  · exact congrArg _ (State.withRequest_records hm (releasePin_range hl hp ha))
  · exact forces _ (fun _ => rfl) (releasePin_released hl hp) fun n => force_set _ p n _
  · exact forces _ (fun _ => rfl) (releasePin_all hl ha) fun n => by simp

/-! ### ENTER FALLBACK, RESUME and RELEASE ADDRESS -/

section
variable {s : State}

theorem enterFallbackRequest_running (h : s.mc.mode = .running) :
    enterFallbackRequest s = (.plain stOk 0, s.enterFallback .request) :=
  if_pos h

theorem enterFallbackRequest_fallback (h : s.mc.mode = .fallback) :
    enterFallbackRequest s = (.plain stOk 0, { s with mc := { s.mc with cause := .request } }) := by
  simp [enterFallbackRequest, h]

theorem enterFallbackRequest_wrongMode (hr : s.mc.mode ≠ .running) (hf : s.mc.mode ≠ .fallback) :
    enterFallbackRequest s = (.plain stWrongMode 0, s) :=
  (if_neg hr).trans (if_neg hf)

theorem resumeRequest_fallback (h : s.mc.mode = .fallback) : resumeRequest s = (.plain stOk 0, s.leaveFallback) :=
  if_pos h

theorem resumeRequest_wrongMode (h : s.mc.mode ≠ .fallback) : resumeRequest s = (.plain stWrongMode 0, s) :=
  if_neg h

theorem releaseAddress_wrongMode (h : s.mc.mode ≠ .standby) : releaseAddress s = (.plain stWrongMode 0, s) :=
  if_neg h

/-- R144: the node without its address and without S. -/
def State.addressReleased (s : State) : State :=
  { s.clearArmed with mc := { s.mc with address := 0, mode := .unaddressed } }

theorem releaseAddress_standby (h : s.mc.mode = .standby) : releaseAddress s =
    (.plain stOk (if s.banks.armed = none then 0 else 0x04),
      s.addressReleased.withForce (Vector.replicate 24 none)) := by
  rw [← disarmedFlag_eq]
  exact if_pos h

end

/-- Settles O43: each request is refused with a payload, executed in its modes, and else refused. -/
theorem modeRequestsExecute : Obligations.ModeRequestsExecute := by
  intro f rq s counted answers movesPins
  refine ⟨fun hl => ⟨fun hm => ?_, fun hm => ?_, fun hm => ?_⟩, fun hl => ?_⟩
  iterate 3 exact congrArg _ (State.withRequest_records hm (noPayload_refused hl _ _))
  have performs : ∀ {c code perform status flags u},
      (∀ t, exec c t = .next (t.withRequest code rq (replayable code rq (noPayload rq perform)))) →
      perform counted = (.plain status flags, u) → answers c code status flags u := fun hc hp hm =>
    (hc s).trans (congrArg _ (State.withRequest_records hm ((noPayload_performed hl _ _).trans hp)))
  refine ⟨fun hr => ⟨counted.enterFallback .request, ?_, ?_, ?_⟩,
    fun hf => ⟨?_, counted.leaveFallback, ?_, ?_, ?_, ?_⟩, fun hr hf => ?_, fun hf => ?_, fun hs => ?_,
    fun hs => ⟨counted.addressReleased.withForce (Vector.replicate 24 none), ?_, fun n => ?_, ?_, ?_⟩⟩
  · exact performs (fun _ => rfl) (enterFallbackRequest_running (s := counted) hr)
  · exact State.enterFallback_spec .request counted
  · exact State.enterFallback_frame .request counted
  · exact performs (fun _ => rfl) (enterFallbackRequest_fallback (s := counted) hf)
  · exact performs (fun _ => rfl) (resumeRequest_fallback (s := counted) hf)
  · exact State.leaveFallback_spec counted
  · rw [State.leaveFallback_stats]
  · exact State.leaveFallback_frame counted
  · exact performs (fun _ => rfl) (enterFallbackRequest_wrongMode (s := counted) hr hf)
  · exact performs (fun _ => rfl) (resumeRequest_wrongMode (s := counted) hf)
  · exact performs (fun _ => rfl) (releaseAddress_wrongMode (s := counted) hs)
  · exact performs (fun _ => rfl) (releaseAddress_standby (s := counted) hs)
  · simp
  · exact State.withForce_decided _ rfl rfl
  · exact State.withForce_frame _ counted.addressReleased

end Sys2Proof.Machine
end

section
/-! SUPPORT. What happens in time: the end of reset, ticks, the pulse waveform, and a sample of the pads. -/

namespace Sys2Proof.Machine

/-! ### The end of reset -/

/-- R80: a raw level is the reading of its pad. -/
theorem State.rawLevels_getLsbD (field : List PadField) (s : State) (n : Pin) :
    (s.rawLevels field).getLsbD n.val =
      padReading (s.pinState n) (field.getD n.val .floating) (Config.openReading s.freeCount n.val) :=
  pinWord_getLsbD _ n

/-- R80: a pad that the node leaves in HIGHZ reads what the field circuit presents. -/
theorem padReading_highz (field : PadField) (free : Bool) : padReading .highz field free =
    match field with
    | .overcomes high => high
    | .level high => high
    | .floating => free := by
  cases field <;> rfl

/-- Settles O5: the pads of a held node are in HIGHZ when the first sample reads them. -/
theorem endOfResetTakesFirstSample : Obligations.EndOfResetTakesFirstSample := by
  intro field s hh hpower hpin
  refine ⟨s.leaveReset field, exec_endOfReset field (State.resetEndDue_iff.2 ⟨hh, hpower, hpin⟩), rfl, fun n => ?_⟩
  have hlevel := s.rawLevels_getLsbD field n
  rw [State.pinState_held hh, padReading_highz] at hlevel
  exact hlevel

/-! ### Ticks -/

theorem exec_tickIncrement {s : State} (hh : s.held = false) (atSwitch : Bool) :
    exec (.tickIncrement atSwitch) s = .next { s with
      sampler := s.sampler.advance s.divisor
      mc := { s.mc with timer := s.mc.timer.map (· - 1) }
      pg := Vector.ofFn fun n => s.pg[n].tick atSwitch } :=
  congrArg _ (if_neg (by simp [hh]))

/-- R79: the items of the sampler that an increment moves. -/
theorem InputSampler.advance_eq (divisor : Nat) (u : InputSampler) : u.advance divisor = { u with
    tick := u.tick + 1
    phase := if divisor ≤ u.phase + 1 then 0 else u.phase + 1
    due := if divisor ≤ u.phase + 1 then true else u.due } := by
  unfold InputSampler.advance
  split <;> rfl

/-- R112, R121: an increment at a running unit. -/
theorem PulseGen.tick_running {u : PulseGen} {p : Nat} (h : u.state = .running p) (atSwitch : Bool) :
    u.tick atSwitch = { u with
      state := .running
        (if atSwitch = true ∧ u.restarted = true then p
        else if p < u.period.toNat then p + 1 else u.period.toNat)
      restarted := false } := by
  have hmin : min (p + 1) u.period.toNat = if p < u.period.toNat then p + 1 else u.period.toNat := by
    simp only [Nat.min_def, Nat.succ_le_iff]
  simp only [PulseGen.tick, h, hmin, Bool.and_eq_true, apply_ite PulseState.running]

/-! ### The pulse waveform -/

section
variable {s : State} {n : Unit4} {p : Nat}

theorem exec_periodStart (hh : s.held = false) (hs : s.pg[n].state = .running p) (hp : s.pg[n].period.toNat ≤ p) :
    exec (.periodStart n) s = .next { s with pg := s.pg.set n s.pg[n].start } :=
  congrArg _ (if_pos ⟨hh, by simp only [PulseGen.periodDue, hs, hp, decide_true]⟩)

theorem exec_widthReached (hh : s.held = false) (hs : s.pg[n].state = .running p) (hw : s.pg[n].width.toNat ≤ p)
    (hp : p < s.pg[n].period.toNat) :
    exec (.widthReached n) s = .next { s with pg := s.pg.set n { s.pg[n] with outActive := false } } :=
  congrArg _ (if_pos ⟨hh, by simp only [PulseGen.widthDue, hs, hw, hp, decide_true, Bool.and_true]⟩)

end

/-! ### When a sample is due -/

theorem exec_sample {s : State} (field : List PadField) (hh : s.held = false) (hd : s.sampler.due = true) :
    exec (.sample field) s = .next { s.takeSample (s.rawLevels field) with freeCount := s.freeCount + 1 } :=
  congrArg _ (if_pos (by simp [State.sampleDue, hh, hd]))

theorem exec_sample_not_due {s : State} (field : List PadField) (hd : s.sampler.due = false) :
    exec (.sample field) s = .next s :=
  congrArg _ (if_neg (by simp [State.sampleDue, hd]))

/-- Settles O47: the sampler, the timer and each unit take an increment, and a unit's own steps act where they are due. -/
theorem ticksDriveTheTimebase : Obligations.TicksDriveTheTimebase := by
  intro s hh divisor samples
  refine ⟨fun atSwitch => ?_, fun hd field => exec_sample_not_due field hd,
    fun n p hs => ⟨exec_periodStart hh hs, exec_widthReached hh hs⟩⟩
  have htimer : s.mc.timer.map (· - 1) = match s.mc.timer with
      | none => none
      | some k => some (k - 1) := by
    cases s.mc.timer <;> rfl
  rw [exec_tickIncrement hh, InputSampler.advance_eq, htimer]
  congr 3
  funext n
  cases hs : s.pg[n].state with
  | off | stopped => simp only [PulseGen.tick, hs]
  | running p => exact PulseGen.tick_running hs atSwitch

/-! ### A sample, pin by pin -/

/-- R81: a level changes at the (b + 1)th differing sample. -/
theorem debounceStep_fst (b : Nat) (raw level : Bool) (run : Nat) :
    (debounceStep b raw level run).1 = (raw != level && b + 1 ≤ run + 1) := by
  unfold debounceStep
  split
  next h => simp [h]
  next h => simp [h, apply_ite Prod.fst]

/-- R81: the run of differing samples ends with an equal one and with a change of the level. -/
theorem debounceStep_snd (b : Nat) (raw level : Bool) (run : Nat) :
    (debounceStep b raw level run).2 =
      if raw = level ∨ (debounceStep b raw level run).1 = true then 0 else run + 1 := by
  unfold debounceStep
  split
  next h => simp [h]
  next h => split <;> simp [h]

/-- R92: the claimant list names a code that stands in it. -/
theorem Row.names_iff {r : Row} {code : Byte} : r.names code = true ↔ code ∈ r.claimants :=
  List.contains_iff_mem

/-- Table 5-1: the watch polarity BOTH, or that of the edge. -/
theorem Row.watches_iff {r : Row} {rise : Bool} :
    r.watches rise = true ↔ r.b7 = 2 ∨ r.b7 = (if rise then 0 else 1) := by
  simp only [Row.watches, Bool.or_eq_true, beq_iff_eq]

/-! ### A sample of the node -/

section
variable (raw : PinWord) (s : State)

theorem State.takeSample_frame : s.takeSample raw = { s with
    sampler := (s.sampled raw).sampler
    stats := (s.sampled raw).stats
    cc := (s.takeSample raw).cc
    queue := (s.takeSample raw).queue } :=
  foldl_deliverEdge_frame (fun n => raw.getLsbD n.val) _ _

/-- R87, R88: the edges delivered to a counter/capture unit. -/
theorem State.takeSample_cc (k : Unit4) : (s.takeSample raw).cc[k] = (s.deliveredPins raw).foldl
    (fun u n => if BitVec.ofNat 8 (6 + k.val) ∈ (s.pinRow n).claimants then
      u.edge (s.banks.activeBank.ccRow k) (raw.getLsbD n.val) s.sampler.tick else u) s.cc[k] := by
  simp only [← Row.names_iff]
  exact foldl_deliverEdge_cc (fun n => raw.getLsbD n.val) k _ _

/-- R92, R93: the edges delivered to the event queue. -/
theorem State.takeSample_queue : (s.takeSample raw).queue = (s.deliveredPins raw).foldl
    (fun q n => if (10 : Byte) ∈ (s.pinRow n).claimants ∧
        ((s.pinRow n).b7 = 2 ∨ (s.pinRow n).b7 = (if raw.getLsbD n.val then 0 else 1)) then
      q.post n (raw.getLsbD n.val) s.sampler.tick else q) s.queue := by
  simp only [← Row.names_iff, ← Row.watches_iff, ← Bool.and_eq_true]
  exact foldl_deliverEdge_queue (fun n => raw.getLsbD n.val) _ _

/-- R81: a pin has an edge where its raw level differs and its debounce value is reached. -/
theorem State.edgeAt_eq (n : Pin) : s.edgeAt raw n =
    (raw.getLsbD n.val != s.sampler.level.getLsbD n.val && s.debounceOf n + 1 ≤ s.sampler.run[n] + 1) :=
  debounceStep_fst _ _ _ _

/-- R81, R84: a pin's debounced level, run count and settle count after a sample. -/
theorem State.sampled_pin (n : Pin) :
    (s.sampled raw).sampler.level.getLsbD n.val =
      (if s.edgeAt raw n then raw.getLsbD n.val else s.sampler.level.getLsbD n.val) ∧
    (s.sampled raw).sampler.run[n] =
      (if raw.getLsbD n.val = s.sampler.level.getLsbD n.val ∨ s.edgeAt raw n = true then 0
      else s.sampler.run[n] + 1) ∧
    (s.sampled raw).sampler.settle[n] = s.sampler.settle[n] - 1 := by
  refine ⟨pinWord_getLsbD _ n, ?_, ?_⟩
  · refine Eq.trans ?_ (debounceStep_snd (s.debounceOf n) _ _ _)
    simp [State.sampled]
  · simp [State.sampled]

end

/-- Settles O48: the raw level of each pin is the reading of its pad, its edge is the debounce step's, and the edges
that no settle count masks are delivered in turn. -/
theorem sampleDebouncesAndDelivers : Obligations.SampleDebouncesAndDelivers := by
  intro field s hh hd raw debounce accepts delivered
  have hraw : ∀ n : Pin, (s.rawLevels field).getLsbD n.val = raw n := s.rawLevels_getLsbD field
  have haccepts : s.edgeAt (s.rawLevels field) = accepts := by
    funext n
    rw [State.edgeAt_eq, hraw]
    rfl
  have hdelivered : s.deliveredPins (s.rawLevels field) = delivered := by
    rw [State.deliveredPins, haccepts]
  have hframe := s.takeSample_frame (s.rawLevels field)
  refine ⟨_, exec_sample field hh hd, fun n => ?_, ?_, fun k => ?_, ?_, ?_⟩
  · rw [hframe, ← hraw, ← haccepts]
    exact s.sampled_pin (s.rawLevels field) n
  · rw [hframe, ← haccepts]
    rfl
  · simp only [State.takeSample_cc, hdelivered, hraw]
  · simp only [State.takeSample_queue, hdelivered, hraw]
  · rw [hframe]
    rfl

end Sys2Proof.Machine
end

section
/-! SUPPORT. The event queue and the view, and the moves that these two can make. -/

namespace Sys2Proof.Machine

/-- The event queue and the view of the exchange. -/
structure QueueView where
  queue : EventQueue
  view : View

/-- The event queue and the view of a node. -/
def State.queueView (s : State) : QueueView := ⟨s.queue, s.mx.view⟩

/-- Chapter 5, R163 to R166: all that can become of a queue and a view. -/
inductive QueueView.Reaches (q : QueueView) : QueueView → Prop
  | refl : Reaches q q
  /-- R96, R97. -/
  | posted {r : QueueView} (h : Reaches q r) (n : Pin) (rise : Bool) (stamp : Word) :
    Reaches q { r with queue := r.queue.post n rise stamp }
  /-- R100, R101. -/
  | acknowledged {r : QueueView} (h : Reaches q r) (a : Half) : Reaches q { r with queue := (r.queue.ack a).1 }
  /-- R164. -/
  | opened {r : QueueView} (h : Reaches q r) (role : Role) {t : TableId} {i : Nat} (hi : i < t.size) :
    Reaches q { r with view := ⟨role, t, i⟩ }
  /-- R165, R166. -/
  | advanced {r : QueueView} (h : Reaches q r) {n : Nat} (hn : r.view.next + n ≤ r.view.table.size) :
    Reaches q { r with view := { r.view with next := r.view.next + n } }
  /-- R108, R176. -/
  | reset : Reaches q State.reset.queueView

/-! ### What the moves keep -/

/-- R94: a queue with no record is consecutive. -/
theorem EventQueue.consecutive_reset : EventQueue.reset.Consecutive :=
  ⟨Nat.zero_le _, nofun⟩

/-- R94: each move leaves the queue consecutive. -/
theorem QueueView.Reaches.consecutive {q r : QueueView} (h : q.Reaches r) (hq : q.queue.Consecutive) :
    r.queue.Consecutive := by
  induction h with
  | refl => exact hq
  | posted _ n rise stamp ih => exact ih.post n rise stamp
  | acknowledged _ a ih => exact ih.ack a
  | opened _ _ _ ih => exact ih
  | advanced _ _ ih => exact ih
  | reset => exact EventQueue.consecutive_reset

/-- R163: each move leaves the view within its table. -/
theorem QueueView.Reaches.view_next_le {q r : QueueView} (h : q.Reaches r) (hq : q.view.next ≤ q.view.table.size) :
    r.view.next ≤ r.view.table.size := by
  induction h with
  | refl => exact hq
  | posted _ _ _ _ ih => exact ih
  | acknowledged _ _ ih => exact ih
  | opened _ _ hi _ => exact Nat.le_of_lt hi
  | advanced _ hn _ => exact hn
  | reset => exact Nat.zero_le _

/-! ### Operations that leave the queue and the view alone -/

/-- The queue and the view depend on these two alone. -/
theorem State.queueView_congr {s t : State} (hq : t.queue = s.queue) (hm : t.mx = s.mx) :
    t.queueView = s.queueView := by
  rw [State.queueView, hq, hm, State.queueView]

section
variable (f : Frame) (s : State)

@[simp] theorem State.queueView_redecide : s.redecide.queueView = s.queueView :=
  State.queueView_congr s.redecide_queue s.redecide_mx

@[simp] theorem State.queueView_enterFallback (c : Cause) : (s.enterFallback c).queueView = s.queueView :=
  State.queueView_congr (s.enterFallback_queue c) (s.enterFallback_mx c)

@[simp] theorem State.queueView_leaveFallback : s.leaveFallback.queueView = s.queueView :=
  State.queueView_congr s.leaveFallback_queue s.leaveFallback_mx

@[simp] theorem State.queueView_releaseAll : s.releaseAll.queueView = s.queueView :=
  State.queueView_congr s.releaseAll_queue s.releaseAll_mx

@[simp] theorem State.queueView_switchTo (g : Byte) : (s.switchTo g).queueView = s.queueView :=
  State.queueView_congr (State.redecideWith_queue _ _) (State.redecideWith_mx _ _)

@[simp] theorem State.queueView_passSymbols (arr : List Sym) (out : List OutSym) :
    (s.passSymbols f arr out).queueView = s.queueView := rfl

@[simp] theorem State.queueView_passSegment (arr : List Sym) (out : List OutSym) :
    (s.passSegment f arr out).queueView = s.queueView := rfl

@[simp] theorem State.queueView_poisonIfExcess : (s.poisonIfExcess f).queueView = s.queueView := by
  unfold State.poisonIfExcess
  split
  · split <;> rfl
  · rfl

@[simp] theorem State.queueView_tooLong : (s.tooLong f).queueView = s.queueView :=
  State.queueView_poisonIfExcess f s

@[simp] theorem State.queueView_frameSymbol (x : Sym) : (s.frameSymbol f x).queueView = s.queueView := by
  unfold State.frameSymbol
  split
  · exact State.queueView_tooLong f _
  · exact State.queueView_poisonIfExcess f s

@[simp] theorem State.queueView_bindFrame (L : Nat) : (s.bindFrame L f).queueView = s.queueView := by
  rw [State.bindFrame_eq]
  rfl

@[simp] theorem State.queueView_enterOutputs (o : StrobeSet) : (enterOutputs o s).queueView = s.queueView := by
  rw [enterOutputs_frame]
  rfl

@[simp] theorem State.queueView_strobeHeader (h : Header) : (s.strobeHeader h).queueView = s.queueView := by
  unfold State.strobeHeader State.applyStrobe
  split
  · split
    · rfl
    · exact State.queueView_enterOutputs s _
  · rfl

@[simp] theorem State.queueView_processHeader (h : Header) : (s.processHeader h f).queueView = s.queueView := by
  unfold State.processHeader
  split
  · rfl
  split
  · rfl
  · rw [State.queueView_bindFrame, State.queueView_switchTo]
  · exact State.queueView_bindFrame f s _
  · rfl

@[simp] theorem State.queueView_handOn (h : Header) : (s.handOn h f).queueView = s.queueView := by
  unfold State.handOn
  split
  · exact State.queueView_processHeader f s h
  · exact State.queueView_strobeHeader _ h
  · rfl

@[simp] theorem State.queueView_headerArrives (rest : List Sym) : (s.headerArrives f rest).queueView = s.queueView := by
  unfold State.headerArrives
  split
  · rfl
  · exact State.queueView_handOn _ _ _

@[simp] theorem State.queueView_fieldArrives (rest : List Sym) : (s.fieldArrives f rest).queueView = s.queueView := by
  unfold State.fieldArrives
  dsimp only
  split <;> rfl

@[simp] theorem State.queueView_badSegmentArrives (rest : List Sym) :
    (s.badSegmentArrives f rest).queueView = s.queueView := by
  unfold State.badSegmentArrives
  rw [State.queueView_passSymbols]
  split <;> rfl

@[simp] theorem State.queueView_emptyArrives (bytes : List Byte) :
    (s.emptyArrives f bytes).queueView = s.queueView := by
  unfold State.emptyArrives
  split
  · split <;> rfl
  · rfl

@[simp] theorem State.queueView_capture (r : Row) : (s.capture f r).queueView = s.queueView := by
  unfold State.capture
  split <;> rfl

@[simp] theorem State.queueView_takeValue (r : Row) : (s.takeValue f r).queueView = s.queueView := by
  unfold State.takeValue
  split <;> rfl

@[simp] theorem State.queueView_abortAtLinkDown : s.abortAtLinkDown.queueView = s.queueView := by
  unfold State.abortAtLinkDown
  split <;> rfl

@[simp] theorem State.queueView_linkDown : s.linkDown.queueView = s.queueView := by
  refine Eq.trans ?_ s.queueView_abortAtLinkDown
  unfold State.linkDown State.linkLost
  dsimp only
  split
  · exact State.queueView_enterFallback _ _
  · rfl

@[simp] theorem State.queueView_abortFor (cause : AbortCause) : (s.abortFor cause f).queueView = s.queueView := by
  cases cause with
  | linkDown => exact s.queueView_abortAtLinkDown
  | abortDelimiter | startDelimiter => rfl
  | tooLong =>
    unfold State.abortFor
    dsimp only
    split
    · exact State.queueView_tooLong f _
    · rfl

@[simp] theorem State.queueView_takeSet (policy : Row) (o : StrobeSet) :
    (takeSet policy o s).queueView = s.queueView := by
  rw [takeSet_frame]
  rfl

@[simp] theorem State.queueView_goodFrameAtMode (policy : Row) :
    (goodFrameAtMode policy s).queueView = s.queueView := by
  rw [goodFrameAtMode_frame]
  rfl

end

end Sys2Proof.Machine
end

section
/-! SUPPORT. Requests, samples, frame ends and the commands: each makes such moves only. -/

namespace Sys2Proof.Machine

section
variable {q : QueueView} {f : Frame} {s : State}

/-! ### Requests -/

theorem noPayload_reaches {rq : Request} {perform : State → Answer × State} (h : q.Reaches s.queueView)
    (hp : (perform s).2.queueView = s.queueView) : q.Reaches (noPayload rq perform s).2.queueView := by
  unfold noPayload
  split
  · exact h
  · exact hp ▸ h

/-- R164: OPEN VIEW names a row of its table. -/
theorem openView_reaches (h : q.Reaches s.queueView) (rq : Request) : q.Reaches (openView rq s).2.queueView := by
  unfold openView
  split
  · exact h
  split
  · exact h
  split
  · exact h
  split
  · exact h
  · rename_i hi
    exact h.opened _ (Nat.lt_of_not_le hi)

/-- R165: READ ROWS reads no row beyond the table. -/
theorem readRows_reaches (h : q.Reaches s.queueView) (rq : Request) : q.Reaches (readRows rq s).2.queueView := by
  unfold readRows
  dsimp only
  split
  · exact h
  split
  · exact h
  split
  · exact h
  · rename_i hn
    exact h.advanced (Nat.le_of_not_lt hn)

/-- R166: WRITE ROWS stores no row beyond the table. -/
theorem writeRows_reaches (h : q.Reaches s.queueView) (rq : Request) : q.Reaches (writeRows rq s).2.queueView := by
  unfold writeRows
  dsimp only
  split
  · exact h
  split
  · exact h
  split
  · exact h
  · rename_i hn
    exact h.advanced (Nat.le_of_not_lt hn)

/-- Of the fourteen executions three move the view and none the queue. -/
theorem Execution.reaches {rq : Request} {perform : State → Answer × State} (hx : Execution rq perform)
    (h : q.Reaches s.queueView) : q.Reaches (perform s).2.queueView := by
  cases hx with
  | openView => exact openView_reaches h rq
  | readRows => exact readRows_reaches h rq
  | writeRows => exact writeRows_reaches h rq
  | clone | disarm | restart | clearStats | clearCause => exact noPayload_reaches h rfl
  | arm =>
    unfold armRequest
    dsimp only
    repeat' split
    all_goals exact h
  | forcePin =>
    unfold Machine.forcePin
    repeat' split
    case h_2.isTrue => exact (State.queueView_redecide _).symm ▸ h
    all_goals exact h
  | releasePin =>
    unfold Machine.releasePin
    split
    · exact h
    split
    · exact s.queueView_releaseAll.symm ▸ h
    split
    · exact (State.queueView_redecide _).symm ▸ h
    · exact h
  | enterFallback =>
    refine noPayload_reaches h ?_
    unfold enterFallbackRequest
    split
    · exact s.queueView_enterFallback _
    · split <;> rfl
  | resume =>
    refine noPayload_reaches h ?_
    unfold resumeRequest
    split
    · exact s.queueView_leaveFallback
    · rfl
  | releaseAddress =>
    refine noPayload_reaches h ?_
    unfold Machine.releaseAddress
    split
    · exact State.queueView_releaseAll _
    · rfl

theorem handleRequest_reaches (h : q.Reaches s.queueView) (code : Byte) (rq : Request) :
    q.Reaches (handleRequest code rq s).2.queueView :=
  (handleRequest_handles code rq).keeps (P := fun t => q.Reaches t.queueView) h (fun _ _ hu => hu)
    (fun _ _ hu _ => hu) (fun _ _ hu => hu) (fun _ hx _ => hx.reaches (s := s.countConsumed) h)

theorem State.requestArrives_reaches (h : q.Reaches s.queueView) (bytes : List Byte) (code : Byte) (rq : Request) :
    q.Reaches (s.requestArrives f bytes rq (handleRequest code rq)).queueView := by
  unfold State.requestArrives
  split
  · have ht := handleRequest_reaches h code rq
    split
    all_goals
      rename_i hr
      rw [hr] at ht
      exact ht
  · exact h

theorem State.segmentArrives_reaches (h : q.Reaches s.queueView) (rest : List Sym) :
    q.Reaches (s.segmentArrives f rest).queueView := by
  unfold State.segmentArrives
  dsimp only
  split
  · rwa [State.queueView_badSegmentArrives]
  split
  · rwa [State.queueView_emptyArrives]
  split
  · exact State.requestArrives_reaches h _ _ _
  · exact h

/-! ### Frame ends -/

/-- R48: an EVACK value is handed to the queue. -/
theorem takeAck_reaches (h : q.Reaches s.queueView) (a : Option Half) : q.Reaches (takeAck a s).queueView := by
  cases a with
  | none => exact h
  | some a => exact h.acknowledged a

theorem applyFrame_reaches (h : q.Reaches s.queueView) (policy : Row) :
    q.Reaches (applyFrame policy s).queueView := by
  rw [applyFrame_eq, State.queueView_goodFrameAtMode]
  refine takeAck_reaches ?_ _
  exact (s.queueView_takeSet policy s.frameSet).symm ▸ h

theorem deliverVerdict_reaches (h : q.Reaches s.queueView) (t : FrameType) (good : Bool) :
    q.Reaches (deliverVerdict f t good s).queueView := by
  cases t with
  | process =>
    show q.Reaches (State.queueView (ite _ _ _))
    split
    · exact applyFrame_reaches h _
    · exact h
  | strobe => exact h
  | address =>
    unfold deliverVerdict takeAddress
    dsimp only
    split
    · split <;> exact h
    · exact h

theorem State.endFrame_reaches (h : q.Reaches s.queueView) : q.Reaches (s.endFrame f).queueView := by
  unfold State.endFrame
  split
  · exact h
  · exact h
  · exact deliverVerdict_reaches (by exact h) _ _

/-! ### The symbols of the IN link -/

theorem State.symbolInFrame_reaches (h : q.Reaches s.queueView) (x : Sym) :
    q.Reaches (s.symbolInFrame f x).queueView := by
  unfold State.symbolInFrame
  split
  · rwa [State.queueView_headerArrives]
  split
  · rwa [State.queueView_fieldArrives]
  split
  · exact State.segmentArrives_reaches h _
  · rwa [State.queueView_frameSymbol]

theorem State.startArrives_reaches (h : q.Reaches s.queueView) : q.Reaches s.startArrives.queueView := by
  unfold State.startArrives
  dsimp only
  split
  · split
    · exact h
    · split <;> exact h
  · exact h

theorem State.idleArrives_reaches (h : q.Reaches s.queueView) (mark : Option Byte) (out : OutSym) :
    q.Reaches (s.idleArrives mark out).queueView := by
  unfold State.idleArrives
  dsimp only
  split
  · split
    · exact State.symbolInFrame_reaches (s := s.validLink true) h _
    · exact h
  · exact h

theorem State.dataArrives_reaches (h : q.Reaches s.queueView) (b : Byte) : q.Reaches (s.dataArrives b).queueView := by
  unfold State.dataArrives
  dsimp only
  split
  · split
    · exact State.symbolInFrame_reaches (s := s.validLink false) h _
    · exact h
  · exact h

theorem State.endArrives_reaches (h : q.Reaches s.queueView) : q.Reaches s.endArrives.queueView := by
  unfold State.endArrives
  dsimp only
  split
  · split
    · exact State.endFrame_reaches (s := s.validLink false) h
    · exact h
  · exact h

theorem State.abortArrives_reaches (h : q.Reaches s.queueView) : q.Reaches s.abortArrives.queueView := by
  unfold State.abortArrives
  dsimp only
  split
  · split <;> exact h
  · exact h

theorem State.symbolArrives_reaches (h : q.Reaches s.queueView) (sym : Symbol) :
    q.Reaches (s.symbolArrives sym).queueView := by
  cases sym with
  | data b => exact State.dataArrives_reaches h b
  | startDelimiter => exact State.startArrives_reaches h
  | endDelimiter => exact State.endArrives_reaches h
  | abortDelimiter => exact State.abortArrives_reaches h
  | plainIdle => exact State.idleArrives_reaches h _ _
  | breakIdle a => exact State.idleArrives_reaches h _ _

theorem State.errorArrives_reaches (h : q.Reaches s.queueView) : q.Reaches s.errorArrives.queueView := by
  unfold State.errorArrives
  dsimp only
  split
  · exact h
  · exact h
  · split
    · exact State.symbolInFrame_reaches h _
    · exact h

/-! ### Samples -/

/-- R92, R93: a delivered edge is posted, or not. -/
theorem State.deliverEdge_reaches (h : q.Reaches s.queueView) (n : Pin) (rise : Bool) :
    q.Reaches (s.deliverEdge n rise).queueView := by
  show q.Reaches ⟨ite _ _ _, s.mx.view⟩
  split
  · exact h.posted n rise s.sampler.tick
  · exact h

/-- R87, R88: the edges of a sample are delivered in turn. -/
theorem State.takeSample_reaches (h : q.Reaches s.queueView) (raw : PinWord) :
    q.Reaches (s.takeSample raw).queueView :=
  List.foldlRecOn (motive := fun t : State => q.Reaches t.queueView) _ _ (by exact h)
    fun _ ht n _ => State.deliverEdge_reaches ht n _

end

/-! ### The commands -/

/-- Whatever a command does moves the queue and the view as QueueView.Reaches says. -/
theorem reaches_keptByActions (q : QueueView) : KeptByActions fun s => q.Reaches s.queueView where
  beginReset _ _ _ _ := .reset
  leaveReset _ _ h _ := h
  holdMoves _ _ h _ := h
  symbolArrives _ sym h _ := State.symbolArrives_reaches h sym
  errorArrives _ h _ := State.errorArrives_reaches h
  linkRises _ h _ := h
  linkDown s h _ _ := s.queueView_linkDown.symm ▸ h
  headerArrives s f rest h _ _ := (s.queueView_headerArrives f rest).symm ▸ h
  fieldArrives s f rest h _ _ := (s.queueView_fieldArrives f rest).symm ▸ h
  badSegmentArrives s f rest h _ _ := (s.queueView_badSegmentArrives f rest).symm ▸ h
  emptyArrives s f _ h _ _ := (s.queueView_emptyArrives f _).symm ▸ h
  requestArrives _ _ code rq h _ _ := State.requestArrives_reaches h _ code rq
  capture s f _ row h _ _ _ := (s.queueView_capture f (s.boundRow f row)).symm ▸ h
  takeValue s f _ row h _ _ _ := (s.queueView_takeValue f (s.boundRow f row)).symm ▸ h
  excessByte s f b h _ _ := (State.queueView_frameSymbol f (s.validLink false) (.byte b)).symm ▸ h
  endFrame s _ h _ := State.endFrame_reaches (s := s.validLink false) h
  abortFor s f cause h _ := (s.queueView_abortFor f cause).symm ▸ h
  delimiterLeaves _ _ _ h _ _ := h
  sample s field h _ := State.takeSample_reaches h (s.rawLevels field)
  expiry s h _ := (s.queueView_enterFallback .timeout).symm ▸ h
  periodStart _ _ h _ _ := h
  widthReached _ _ h _ _ := h
  cloneDone _ _ _ h _ _ _ := h
  armed _ _ _ _ h _ _ _ _ := h
  invalid _ _ _ _ _ h _ _ _ _ := h
  tick _ _ h _ := h

/-- A step moves the queue and the view as QueueView.Reaches says. -/
theorem step_reaches {s t : State} (h : step s = .next t) : s.queueView.Reaches t.queueView :=
  (reaches_keptByActions s.queueView).step (fun _ _ hs => hs) s t .refl h

/-- Settles O55: each move that a step can make with the queue and the view keeps the one consecutive and the other
within its table. -/
theorem queueAndViewKept : Obligations.QueueAndViewKept :=
  ⟨fun _ _ hs h => (step_reaches h).consecutive hs, fun _ _ hs h => (step_reaches h).view_next_le hs⟩

end Sys2Proof.Machine
end

section
/-! SUPPORT. The event queue: an edge posted to it, an acknowledgement handed to it. -/

namespace Sys2Proof.Machine

section
variable {q : EventQueue}

/-! ### Posted edges -/

/-- R96: below depth 32. -/
theorem EventQueue.post_stored (h : q.records.length < 32) (n : Pin) (rise : Bool) (stamp : Word) :
    q.post n rise stamp = ⟨q.records ++ [⟨q.nextSeq, n, rise, q.lost, stamp⟩], q.nextSeq + 1, 0⟩ :=
  if_pos h

/-- R97: at depth 32. -/
theorem EventQueue.post_lost (h : q.records.length = 32) (n : Pin) (rise : Bool) (stamp : Word) :
    q.post n rise stamp = { q with lost := if q.lost = 255 then 255 else q.lost + 1 } :=
  if_neg (Nat.not_lt.2 (Nat.le_of_eq h.symm))

/-! ### Acknowledgements -/

/-- R100: the value is `k` above the oldest number, within the queue. -/
theorem EventQueue.ack_within {k : Nat} (hk : k < q.records.length) (hl : q.records.length ≤ 32) :
    q.ack (q.oldest + BitVec.ofNat 16 k) = ({ q with records := q.records.drop (k + 1) }, false) := by
  have hd : (q.oldest + BitVec.ofNat 16 k - q.oldest).toNat = k := by
    rw [BitVec.add_comm, BitVec.add_sub_cancel, BitVec.toNat_ofNat]
    omega
  simp only [EventQueue.ack, hd, if_pos hk]

/-- R101: the number before the oldest. -/
theorem EventQueue.ack_before (hl : q.records.length ≤ 32) : q.ack (q.oldest - 1) = (q, false) := by
  have hd : (q.oldest - 1 - q.oldest).toNat = 65535 := by
    rw [show q.oldest - 1 - q.oldest = -1 by bv_omega]
    rfl
  simp only [EventQueue.ack, hd]
  rw [if_neg (by omega)]
  rfl

/-- R101, R102: every other value. -/
theorem EventQueue.ack_bad {a : Half} (hw : ∀ k, k < q.records.length → a ≠ q.oldest + BitVec.ofNat 16 k)
    (hb : a ≠ q.oldest - 1) : q.ack a = (q, true) := by
  have hout : ¬ (a - q.oldest).toNat < q.records.length := fun hlt =>
    hw _ hlt (by rw [BitVec.ofNat_toNat, BitVec.setWidth_eq]; bv_omega)
  have hd : (a - q.oldest).toNat ≠ 65535 := fun hd => hb (by bv_omega)
  simp only [EventQueue.ack, if_neg hout]
  exact Prod.ext rfl (decide_eq_true hd)

end

/-! ### The statements -/

/-- Settles O52: the two branches of a post. -/
theorem edgePostedOrLost : Obligations.EdgePostedOrLost :=
  fun _ n rise stamp => ⟨fun h => EventQueue.post_stored h n rise stamp, fun h => EventQueue.post_lost h n rise stamp⟩

/-- Settles O53: in a consecutive queue the oldest number stands the depth below the next one. -/
theorem acknowledgementRemovesRecords : Obligations.AcknowledgementRemovesRecords := by
  intro q a h depth o
  have ⟨hdepth, _⟩ := h
  rw [show o = q.oldest from h.oldest_eq.symm]
  refine ⟨?_, ?_, EventQueue.ack_bad⟩
  · rintro k hk rfl
    exact EventQueue.ack_within hk hdepth
  · rintro rfl
    exact EventQueue.ack_before hdepth

end Sys2Proof.Machine
end

section
/-! SUPPORT. The invariants at the state after reset. -/

namespace Sys2Proof.Machine

/-- State.reset is, in what decides the pins, a node that has begun a reset. -/
theorem State.reset_ownersDecided : State.reset.OwnersDecided :=
  (State.ownersDecided_iff _).2 (State.beginReset_owned ⟨true, false, false⟩ ⟨.off, .off, .off⟩ State.reset)

/-- State.reset is, in its control part, a node that has begun a reset. -/
theorem State.reset_consistent : State.reset.Consistent :=
  (State.consistent_iff _).2 (State.beginReset_ok ⟨true, false, false⟩ ⟨.off, .off, .off⟩ State.reset)

/-- R1, R123: the units are OFF, and no row of the zero bank enables one. -/
theorem State.reset_pulseOk : State.reset.PulseOk := fun n => by
  have hpg : State.reset.pg[n] = PulseGen.reset := by simp [State.reset]
  have hrow : State.reset.banks.activeBank.pgRow n = Row.zero := by
    simp [State.reset, BankUnit.reset, BankUnit.activeBank, BankUnit.bank, Bank.pgRow, Bank.zero]
  have hset : State.reset.store.pgset[n] = ⟨0, 0⟩ := by simp [State.reset, ChannelStore.reset]
  rw [hpg, hrow, hset]
  exact ⟨rfl, rfl, rfl, rfl, rfl, rfl⟩

/-- R190: no frame is in passage. -/
theorem State.reset_frameOk : State.reset.FrameOk :=
  (State.frameOk_iff _).2 (.idle rfl rfl)

/-- Settles O60: each invariant in turn. -/
theorem invariantsHoldAtReset : Obligations.InvariantsHoldAtReset :=
  ⟨EventQueue.consecutive_reset, Nat.zero_le _, State.reset_ownersDecided, State.reset_consistent,
    State.reset_pulseOk, State.reset_frameOk⟩

end Sys2Proof.Machine
end

section
/-! SUPPORT. The blocks of Chapter 6 by themselves: a setpoint handed to a pulse generator, a delivered edge at a
counter/capture unit, and the moves that keep a pulse generator in the states of Table 6-1. -/

namespace Sys2Proof.Machine

/-! ### A setpoint handed to a pulse generator (Table 6-3) -/

section
variable {u : PulseGen}

/-- R115. -/
theorem PulseGen.take_off (h : u.state = .off) (v : Setpoint) :
    u.take v = { u with nextPeriod := v.period, nextWidth := v.width } := by
  simp only [PulseGen.take, h]

/-- R117. -/
theorem PulseGen.take_stopped (h : u.state = .stopped) (v : Setpoint) :
    u.take v =
      if v.period = 0 then { u with nextPeriod := v.period, nextWidth := v.width }
      else PulseGen.start { u with nextPeriod := v.period, nextWidth := v.width } := by
  simp only [PulseGen.take, h]

/-- R116, R118. -/
theorem PulseGen.take_running {p : Nat} (h : u.state = .running p) (v : Setpoint) :
    u.take v =
      if v.period = 0 then PulseGen.halt { u with nextPeriod := v.period, nextWidth := v.width } .stopped v.width
      else { u with nextPeriod := v.period, nextWidth := v.width } := by
  simp only [PulseGen.take, h]

end

/-- Settles O50: the three states of the unit, each with and without a period. -/
theorem setpointAdopted : Obligations.SetpointAdopted := by
  intro u v stored
  refine ⟨fun h => PulseGen.take_off h v, fun h hz => ?_, fun h hn => ?_, fun p h => ⟨fun hn => ?_, fun hz => ?_⟩⟩
  · rw [PulseGen.take_stopped h, if_pos hz]
  · rw [PulseGen.take_stopped h, if_neg hn]
    rfl
  · rw [PulseGen.take_running h, if_neg hn]
  · rw [PulseGen.take_running h, if_pos hz]
    rfl

/-! ### A delivered edge at a counter/capture unit -/

section
variable {u : CounterCapture} {row : Row} {rise : Bool} {stamp : Word}

theorem CounterCapture.edge_disabled (h : row.b0 ≠ 1) : u.edge row rise stamp = u := by
  have hoff : (!row.unitEnabled) = true := by simpa [Row.unitEnabled] using h
  rw [CounterCapture.edge, if_pos hoff]

/-- R125: in RISE, FALL and BOTH the edges that the mode selects are counted. -/
theorem CounterCapture.edge_counting (h : row.b0 = 1) (hm : row.b1 ≠ 3) :
    u.edge row rise stamp =
      if row.b1 = 2 ∨ row.b1 = (if rise then 0 else 1) then { u with count := u.count + 1, stamp := stamp } else u := by
  have hon : ¬ (!row.unitEnabled) = true := by simp [Row.unitEnabled, h]
  rw [CounterCapture.edge, if_neg hon, if_neg hm]
  cases rise <;> simp

/-- R126: in PERIOD a FALL edge is not measured. -/
theorem CounterCapture.edge_period_fall (hm : row.b1 = 3) : u.edge row false stamp = u := by
  simp only [CounterCapture.edge, hm, if_true, if_false, Bool.false_eq_true, ite_self]

/-- R126: in PERIOD the first RISE edge is the reference. -/
theorem CounterCapture.edge_period_first (h : row.b0 = 1) (hm : row.b1 = 3) (hr : u.ref = none) :
    u.edge row true stamp = { u with ref := some stamp } := by
  simp only [CounterCapture.edge, Row.unitEnabled, h, hm, hr, beq_self_eq_true, Bool.not_true, Bool.false_eq_true,
    if_true, if_false]

/-- R126: in PERIOD each further RISE edge is measured from the one before it. -/
theorem CounterCapture.edge_period_next {r : Word} (h : row.b0 = 1) (hm : row.b1 = 3) (hr : u.ref = some r) :
    u.edge row true stamp = ⟨stamp - r, stamp, some stamp⟩ := by
  simp only [CounterCapture.edge, Row.unitEnabled, h, hm, hr, beq_self_eq_true, Bool.not_true, Bool.false_eq_true,
    if_true, if_false]

end

/-- Settles O51: a disabled unit, the three counting modes, and PERIOD by the edge and the reference. -/
theorem counterTakesEdge : Obligations.CounterTakesEdge := by
  intro u row rise stamp
  refine ⟨CounterCapture.edge_disabled, fun he hm => CounterCapture.edge_counting he ?_, fun he hm => ⟨?_, ?_, ?_⟩⟩
  · intro h3
    rw [h3] at hm
    exact absurd hm (by decide)
  · rintro rfl
    exact CounterCapture.edge_period_fall hm
  · rintro rfl hr
    exact CounterCapture.edge_period_first he hm hr
  · rintro r rfl hr
    exact CounterCapture.edge_period_next he hm hr

/-! ### The moves of a pulse generator -/

namespace PulseGen.Ok

variable {row : Row} {v : Setpoint} {u : PulseGen}

/-- R114: a RUNNING unit starts its next period. -/
theorem start (h : u.Ok row v) {p : Nat} (hs : u.state = .running p) : u.start.Ok row v := by
  obtain ⟨hperiod, hwidth, hstate⟩ := h
  rw [hs] at hstate
  obtain ⟨henabled, -, hnext, -⟩ := hstate
  exact ⟨hperiod, hwidth, henabled, hnext, hnext, Nat.zero_le _, fun _ => rfl⟩

/-- R112: the output of a unit may cease in every state. -/
theorem outputCeased (h : u.Ok row v) : PulseGen.Ok row v { u with outActive := false } := by
  obtain ⟨hperiod, hwidth, hstate⟩ := h
  refine ⟨hperiod, hwidth, ?_⟩
  cases hs : u.state <;> simp only [hs] at hstate ⊢
  case off =>
    obtain ⟨henabled, hzero, -, hmark⟩ := hstate
    exact ⟨henabled, hzero, trivial, hmark⟩
  case stopped =>
    obtain ⟨henabled, hzero, hnext, -, hmark⟩ := hstate
    exact ⟨henabled, hzero, hnext, trivial, hmark⟩
  case running => exact hstate

/-- R121: a unit restarts from its new row, whatever its old row was, with the same next values. -/
theorem restart (h : u.Ok row v) (new : Row) : (u.restart new).Ok new v := by
  obtain ⟨hperiod, hwidth, -⟩ := h
  unfold PulseGen.restart
  split
  · rename_i hdisabled
    exact ⟨hperiod, hwidth, by simpa using hdisabled, rfl, rfl, rfl⟩
  · rename_i henabled
    have henabled : new.unitEnabled = true := by simpa using henabled
    split
    · rename_i hz
      exact ⟨hperiod, hwidth, henabled, rfl, hz, rfl, rfl⟩
    · rename_i hn
      exact ⟨hperiod, hwidth, henabled, hn, hn, Nat.zero_le _, fun _ => rfl⟩

end PulseGen.Ok

/-- R114: only a RUNNING unit has its period start due. -/
theorem PulseGen.running_of_periodDue {u : PulseGen} (h : u.periodDue = true) : ∃ p, u.state = .running p := by
  unfold PulseGen.periodDue at h
  split at h
  · rename_i p hs
    exact ⟨p, hs⟩
  · cases h

end Sys2Proof.Machine
end

section
/-! SUPPORT. Each operation of the node keeps its pulse generators in the states of Table 6-1. -/

namespace Sys2Proof.Machine

namespace State.PulseOk

variable {s t : State}

/-- The states of the units depend on the ACTIVE function rows, the current tier's PGSET values and the units alone. -/
theorem congr (h : s.PulseOk) (hb : t.banks.activeBank = s.banks.activeBank)
    (hv : t.store.pgset = s.store.pgset) (hg : t.pg = s.pg) : t.PulseOk := by
  intro n
  rw [hb, hg]
  simp only [hv]
  exact h n

/-- A request touches none of the three. -/
theorem requested (h : s.PulseOk) (k : RequestKeeps s t) : t.PulseOk :=
  h.congr k.activeBank (congrArg ChannelStore.pgset k.store) k.pg

/-! ### Operations that move a unit -/

/-- R111, R115 to R118: each value that enters the current tier is handed to its unit. -/
theorem taken (h : s.PulseOk) (hb : t.banks.activeBank = s.banks.activeBank) (p : Unit4 → Option Setpoint)
    (ht : ∀ n, t.outputAt n = ((p n).getD s.store.pgset[n], (p n).elim s.pg[n] s.pg[n].take)) : t.PulseOk := by
  intro n
  obtain ⟨hv, hg⟩ := Prod.ext_iff.1 (ht n)
  simp only [outputAt] at hv hg
  rw [hb, hv, hg]
  cases p n with
  | none => exact h n
  | some v => exact (h n).take v

theorem enterOutputs (h : s.PulseOk) (o : StrobeSet) : (enterOutputs o s).PulseOk :=
  h.taken (by rw [enterOutputs_frame]) (fun n => o.pgset[n]) fun n => outputAt_enterOutputs o n s

/-- R121: at a switch a unit runs on under an equal row, or restarts from its new one. -/
theorem switchTo (h : s.PulseOk) (g : Byte) : (s.switchTo g).PulseOk := by
  intro n
  rw [switchTo_eq, redecideWith_pg, redecideWith_banks, switched_activeBank]
  simp only [redecideWith_store]
  show PulseGen.Ok _ s.store.pgset[n] (switchPulse _ _ s.pg)[n]
  rw [switchPulse_getElem]
  split
  · rename_i hrow
    exact hrow ▸ h n
  · exact (h n).restart _

/-- One unit moves. -/
theorem unitSet (h : s.PulseOk) {n : Unit4} {u : PulseGen}
    (hu : u.Ok (s.banks.activeBank.pgRow n) s.store.pgset[n]) : State.PulseOk { s with pg := s.pg.set n u } := by
  intro k
  show PulseGen.Ok _ _ (s.pg.set n u)[k]
  by_cases hn : n = k
  · subst hn
    have hset : (s.pg.set n u)[n] = u := by simp
    rw [hset]
    exact hu
  · have hset : (s.pg.set n u)[k] = s.pg[k] := Vector.getElem_set_ne _ _ (Fin.val_ne_of_ne hn)
    rw [hset]
    exact h k

/-- R112, R121: an increment reaches every unit. -/
theorem ticked (h : s.PulseOk) (atSwitch : Bool) :
    State.PulseOk { s with pg := Vector.ofFn fun n => s.pg[n].tick atSwitch } := by
  intro n
  have hn : (Vector.ofFn fun k : Unit4 => s.pg[k].tick atSwitch)[n] = s.pg[n].tick atSwitch := by simp
  exact hn ▸ (h n).tick atSwitch

/-! ### The symbols of a frame in passage -/

theorem poisonIfExcess (h : s.PulseOk) (f : Frame) : (s.poisonIfExcess f).PulseOk := by
  unfold State.poisonIfExcess
  split
  · split <;> exact h
  · exact h

theorem tooLong (h : s.PulseOk) (f : Frame) : (s.tooLong f).PulseOk := h.poisonIfExcess f

theorem frameSymbol (h : s.PulseOk) (f : Frame) (x : Sym) : (s.frameSymbol f x).PulseOk := by
  unfold State.frameSymbol
  split
  · exact tooLong (by exact h) f
  · exact h.poisonIfExcess f

theorem bindFrame (h : s.PulseOk) (L : Nat) (f : Frame) : (s.bindFrame L f).PulseOk := by
  rw [bindFrame_eq]
  exact h

theorem processHeader (h : s.PulseOk) (hd : Header) (f : Frame) : (s.processHeader hd f).PulseOk := by
  unfold State.processHeader
  split
  · exact h
  split
  · exact h
  · exact (h.switchTo hd.gen).bindFrame _ f
  · exact h.bindFrame _ f
  · exact h

/-- R51: a STROBE enters the strobe-pending set. -/
theorem strobeHeader (h : s.PulseOk) (hd : Header) : (s.strobeHeader hd).PulseOk := by
  unfold State.strobeHeader State.applyStrobe
  split
  · split
    · exact h
    · exact h.enterOutputs _
  · exact h

theorem headerArrives (h : s.PulseOk) (f : Frame) (rest : List Sym) : (s.headerArrives f rest).PulseOk := by
  unfold State.headerArrives
  split
  · exact h
  · unfold State.goodHeader State.handOn
    dsimp only
    split
    · exact processHeader (by exact h) _ _
    · exact strobeHeader (by exact h) _
    · exact h

theorem fieldArrives (h : s.PulseOk) (f : Frame) (rest : List Sym) : (s.fieldArrives f rest).PulseOk := by
  unfold State.fieldArrives
  dsimp only
  split <;> exact h

/-! ### Segments -/

theorem badSegmentArrives (h : s.PulseOk) (f : Frame) (rest : List Sym) : (s.badSegmentArrives f rest).PulseOk := by
  unfold State.badSegmentArrives
  dsimp only
  split <;> exact h

theorem emptyArrives (h : s.PulseOk) (f : Frame) (bytes : List Byte) : (s.emptyArrives f bytes).PulseOk := by
  unfold State.emptyArrives
  split
  · split <;> exact h
  · exact h

theorem requestArrives (h : s.PulseOk) (f : Frame) (bytes : List Byte) (code : Byte) (rq : Request) :
    (s.requestArrives f bytes rq (handleRequest code rq)).PulseOk := by
  have ht := h.requested (handleRequest_requestKeeps code rq s)
  unfold State.requestArrives
  split
  · split
    all_goals
      rename_i hr
      rw [hr] at ht
      exact ht
  · exact h

theorem segmentArrives (h : s.PulseOk) (f : Frame) (rest : List Sym) : (s.segmentArrives f rest).PulseOk := by
  unfold State.segmentArrives
  dsimp only
  split
  · exact h.badSegmentArrives f rest
  split
  · exact h.emptyArrives f _
  split
  · exact h.requestArrives f _ _ _
  · exact h

theorem symbolInFrame (h : s.PulseOk) (f : Frame) (x : Sym) : (s.symbolInFrame f x).PulseOk := by
  unfold State.symbolInFrame
  split
  · exact h.headerArrives f [x]
  split
  · exact h.fieldArrives f [x]
  split
  · exact h.segmentArrives f [x]
  · exact h.frameSymbol f x

/-! ### Frame ends -/

/-- R45, R46: in IMMEDIATE mode the set of a good processed frame enters the current tier. -/
theorem frameTaken (h : s.PulseOk) (policy : Row) : (s.frameTaken policy).PulseOk := by
  have hb : (s.frameTaken policy).banks.activeBank = s.banks.activeBank := by rw [frameTaken_frame]
  have ht := s.outputAt_frameTaken policy
  by_cases hs : policy.b3 = 1
  · exact h.taken hb (fun _ => none) fun n => (ht n).trans (if_pos hs)
  · exact h.taken hb (fun n => s.frameSet.pgset[n]) fun n => (ht n).trans (if_neg hs)

theorem applyFrame (h : s.PulseOk) (policy : Row) : (applyFrame policy s).PulseOk := by
  rw [applyFrame_eq, goodFrameAtMode_frame]
  exact h.frameTaken policy

theorem deliverVerdict (h : s.PulseOk) (f : Frame) (t : FrameType) (good : Bool) :
    (deliverVerdict f t good s).PulseOk := by
  cases t with
  | process =>
    show State.PulseOk (ite _ _ _)
    split
    · exact h.applyFrame _
    · exact h
  | strobe => exact h
  | address =>
    unfold Machine.deliverVerdict takeAddress
    dsimp only
    split
    · split <;> exact h
    · exact h

theorem endFrame (h : s.PulseOk) (f : Frame) : (s.endFrame f).PulseOk := by
  unfold State.endFrame
  split
  · exact h
  · exact h
  · exact deliverVerdict (by exact h) _ _ _

/-! ### The symbols of the IN link -/

/-- A symbol acts on the frame in passage where the IN link is UP and there is one, and otherwise as `between` or
`down` says. -/
theorem ofSymbol {up : Prop} [Decidable up] {frame : Option Frame} {act : Frame → State} {between down : State}
    (ha : ∀ f, (act f).PulseOk) (hb : between.PulseOk) (hd : down.PulseOk) :
    State.PulseOk (if up then match frame with
      | some f => act f
      | none => between
    else down) := by
  split
  · split
    · exact ha _
    · exact hb
  · exact hd

theorem startArrives (h : s.PulseOk) : s.startArrives.PulseOk := by
  unfold State.startArrives
  dsimp only
  split
  · split
    · exact h
    · split <;> exact h
  · exact h

theorem symbolArrives (h : s.PulseOk) (sym : Symbol) : (s.symbolArrives sym).PulseOk := by
  have linked : ∀ isIdle, (s.validLink isIdle).PulseOk := fun _ => h
  cases sym with
  | data b => exact ofSymbol (fun f => (linked false).symbolInFrame f (.byte b)) h h
  | startDelimiter => exact h.startArrives
  | endDelimiter => exact ofSymbol (fun f => (linked false).endFrame f) h h
  | abortDelimiter => exact ofSymbol (act := fun f => (s.validLink false).abortFrame f true) (fun _ => h) h h
  | plainIdle => exact ofSymbol (fun f => (linked true).symbolInFrame f .idle) h h
  | breakIdle a => exact ofSymbol (fun f => (linked true).symbolInFrame f .idle) h h

theorem errorArrives (h : s.PulseOk) : s.errorArrives.PulseOk := by
  unfold State.errorArrives
  dsimp only
  split
  · exact h
  · exact h
  · split
    · exact h.symbolInFrame _ _
    · exact h

/-! ### Aborts and the entry to FALLBACK -/

theorem abortAtLinkDown (h : s.PulseOk) : s.abortAtLinkDown.PulseOk := by
  unfold State.abortAtLinkDown
  split <;> exact h

theorem enterFallback (h : s.PulseOk) (c : Cause) : (s.enterFallback c).PulseOk :=
  h.requested (.enterFallback s c)

theorem linkDown (h : s.PulseOk) : s.linkDown.PulseOk := by
  have ht := h.abortAtLinkDown
  unfold State.linkDown State.linkLost
  dsimp only
  split
  · exact enterFallback (by exact ht) _
  · exact ht

theorem abortFor (h : s.PulseOk) (f : Frame) (cause : AbortCause) : (s.abortFor cause f).PulseOk := by
  cases cause with
  | linkDown => exact h.abortAtLinkDown
  | abortDelimiter | startDelimiter => exact h
  | tooLong =>
    unfold State.abortFor
    dsimp only
    split
    · exact tooLong (by exact h) f
    · exact h

/-! ### Captures, values taken and samples -/

theorem capture (h : s.PulseOk) (f : Frame) (r : Row) : (s.capture f r).PulseOk := by
  unfold State.capture
  split <;> exact h

theorem takeValue (h : s.PulseOk) (f : Frame) (r : Row) : (s.takeValue f r).PulseOk := by
  unfold State.takeValue
  split <;> exact h

theorem takeSample (h : s.PulseOk) (raw : PinWord) : (s.takeSample raw).PulseOk := by
  unfold State.takeSample
  rw [foldl_deliverEdge_frame fun n => raw.getLsbD n.val]
  exact h

/-! ### The ends of the long operations and resets -/

/-- R18: a copy goes to the STAGED bank, whose rows govern no unit. -/
theorem cloneDone (h : s.PulseOk) : s.cloneDone.PulseOk :=
  h.congr (BankUnit.activeBank_setStaged s.banks _) rfl rfl

/-- R123: a reset leaves the units with those of State.reset. -/
theorem beginReset (cause : ResetCause) (hold : ResetHold) (s : State) : (s.beginReset cause hold).PulseOk :=
  State.reset_pulseOk

end State.PulseOk

/-! ### The commands -/

/-- Whatever a command does keeps the pulse generators in the states of Table 6-1. -/
theorem pulseOk_keptByActions : KeptByActions State.PulseOk where
  beginReset s cause hold _ := .beginReset cause hold s
  leaveReset _ _ h _ := h
  holdMoves _ _ h _ := h
  symbolArrives _ sym h _ := h.symbolArrives sym
  errorArrives _ h _ := h.errorArrives
  linkRises _ h _ := h
  linkDown _ h _ _ := h.linkDown
  headerArrives _ f rest h _ _ := h.headerArrives f rest
  fieldArrives _ f rest h _ _ := h.fieldArrives f rest
  badSegmentArrives _ f rest h _ _ := h.badSegmentArrives f rest
  emptyArrives _ f _ h _ _ := h.emptyArrives f _
  requestArrives _ f code rq h _ _ := h.requestArrives f _ code rq
  capture _ f _ _ h _ _ _ := h.capture f _
  takeValue _ f _ _ h _ _ _ := h.takeValue f _
  excessByte s f b h _ _ := State.PulseOk.frameSymbol (s := s.validLink false) h f (.byte b)
  endFrame s f h _ := State.PulseOk.endFrame (s := s.validLink false) h f
  abortFor _ f cause h _ := h.abortFor f cause
  delimiterLeaves _ _ _ h _ _ := h
  sample s field h _ := h.takeSample (s.rawLevels field)
  expiry _ h _ := h.enterFallback .timeout
  periodStart _ n h _ hd :=
    have ⟨_, hs⟩ := PulseGen.running_of_periodDue hd
    h.unitSet ((h n).start hs)
  widthReached _ n h _ _ := h.unitSet (h n).outputCeased
  cloneDone _ _ _ h _ _ _ := h.cloneDone
  armed _ _ _ _ h _ _ _ _ := h
  invalid _ _ _ _ _ h _ _ _ _ := h
  tick _ atSwitch h _ := h.ticked atSwitch

/-- Settles O58: a unit moves by a setpoint, a restart at a switch, an increment, a period start or the end of a pulse,
and each of these keeps it in Table 6-1. -/
theorem pulseGeneratorsStayOk : Obligations.PulseGeneratorsStayOk :=
  pulseOk_keptByActions.step fun _ _ h => h

end Sys2Proof.Machine
end

section
/-! SUPPORT. The beginnings of the resets and the address that an ADDRESS frame gives. -/

namespace Sys2Proof.Machine

/-! ### Resets -/

/-- Settles O4: a reset that begins is `State.beginReset`, and the two events act on the reset that waits for them. -/
theorem resetsBegin : Obligations.ResetsBegin :=
  ⟨fun _ => rfl, fun _ => rfl, fun _ => exec_softReset, fun _ => exec_supplyGood, fun _ => exec_nrstRises⟩

/-! ### The next-address field -/

/-- The symbols that complete the next-address field of the frame in passage. -/
theorem exec_addressField {f : Frame} {rest : List Sym} {s : State} (hp : s.passing f) (hd : f.fieldDue rest = true) :
    exec (.addressField rest) s = .next (s.fieldArrives f rest) := by
  obtain ⟨hheld, hframe⟩ := hp
  simp only [exec, execAddressField, hheld, hframe, hd, Bool.false_eq_true, if_false, if_true]

/-- R191: the value of a next-address field. -/
theorem nextAddress_toNat (x0 x1 : Sym) :
    (nextAddress [x0, x1]).toNat = (Sym.value x0).toNat + 256 * (Sym.value x1).toNat :=
  le16_toNat _ _

/-- A 16-bit field is its low byte and its high byte. -/
theorem bytes16_eq_toNat (h : Half) : bytes16 h = [BitVec.ofNat 8 h.toNat, BitVec.ofNat 8 (h.toNat / 256)] := by
  simp only [bytes16, List.cons.injEq, and_true]
  exact ⟨BitVec.eq_of_toNat_eq (by simp), BitVec.eq_of_toNat_eq (by simp [Nat.shiftRight_eq_div_pow])⟩

/-- R133: an address is passed on as the next one, which needs the low byte only. -/
theorem bytes16_succ {h : Half} (hl : h.toNat ≤ 250) : bytes16 (h + 1) = [BitVec.ofNat 8 (h.toNat + 1), 0] := by
  have hn : (h + 1).toNat = h.toNat + 1 := by bv_omega
  rw [bytes16_eq_toNat, hn, Nat.div_eq_of_lt (by omega)]
  rfl

/-- R133: a field from 1 to 250 gives its value. -/
theorem provisionalOf_address {h : Half} (h1 : 1 ≤ h.toNat) (h2 : h.toNat ≤ 250) :
    provisionalOf h = some (BitVec.ofNat 8 h.toNat) := by
  rw [provisionalOf, if_pos ⟨h1, h2⟩]
  exact congrArg some (BitVec.eq_of_toNat_eq (by simp))

/-- R135: a field of 0, or above 250, gives no address. -/
theorem provisionalOf_none {h : Half} (hn : h.toNat = 0 ∨ 250 < h.toNat) : provisionalOf h = none :=
  if_neg fun ⟨h1, h2⟩ => hn.elim (by omega) (Nat.not_lt.2 h2)

/-- Symbols taken off the end of a line and others put on are a replacement. -/
theorem replaceTail_nil_append (k : Nat) (xs line : List OutSym) :
    replaceTail k [] line ++ xs = replaceTail k xs line := by
  rw [replaceTail, List.append_nil, replaceTail]

section
variable {f : Frame} {rest : List Sym} {x0 x1 : Sym} {s : State}

/-- R133: the node takes the address of the field, which leaves as the next one. -/
theorem State.fieldArrives_taken (hx : f.arrived.drop 8 ++ rest = [x0, x1]) (hm : s.mc.mode = .unaddressed)
    (h1 : 1 ≤ (nextAddress [x0, x1]).toNat) (h2 : (nextAddress [x0, x1]).toNat ≤ 250) :
    s.fieldArrives f rest = { s with
      fp := { s.fp with frame := some { f with
        arrived := f.arrived ++ rest, damaged := f.damaged || rest.any Sym.damages
        provisional := some (BitVec.ofNat 8 (nextAddress [x0, x1]).toNat) } }
      link := { s.link with
        line := drain (replaceTail (f.arrived.length - 8)
          (overwrite [Sym.out x0, Sym.out x1] [BitVec.ofNat 8 ((nextAddress [x0, x1]).toNat + 1), 0]) s.link.line)
        errorRun := errorRunAfter s.link.errorRun rest } } := by
  have hp := provisionalOf_address h1 h2
  simp only [State.fieldArrives, hx, hp, bytes16_succ h2]
  rw [if_pos ⟨hm, rfl⟩, ← replaceTail_nil_append _ (overwrite _ _)]
  rfl

/-- R135: in every other case the field is forwarded. -/
theorem State.fieldArrives_forwarded (hx : f.arrived.drop 8 ++ rest = [x0, x1])
    (hn : s.mc.mode ≠ .unaddressed ∨ (nextAddress [x0, x1]).toNat = 0 ∨ 250 < (nextAddress [x0, x1]).toNat) :
    s.fieldArrives f rest = s.passSymbols f rest (rest.map Sym.out) := by
  simp only [State.fieldArrives, hx]
  refine if_neg fun ⟨hm, hp⟩ => ?_
  have hnone := provisionalOf_none (hn.resolve_left (not_not_intro hm))
  rw [hnone] at hp
  cases hp

end

/-- Settles O20: the field's value decides, at an UNADDRESSED node, whether the field is taken or forwarded. -/
theorem addressFieldTaken : Obligations.AddressFieldTaken := by
  intro f rest x0 x1 s hp hd hx n forwarded
  have hn : (nextAddress [x0, x1]).toNat = n := nextAddress_toNat x0 x1
  rw [exec_addressField hp hd]
  refine ⟨fun hm h1 h2 => congrArg _ ?_, fun ho => congrArg _ ?_⟩
  · rw [State.fieldArrives_taken hx hm (hn ▸ h1) (hn ▸ h2), hn]
  · rw [State.fieldArrives_forwarded hx (hn ▸ ho)]
    rfl

/-! ### The end of an ADDRESS frame -/

/-- R134: a good ADDRESS frame that gave a provisional address. -/
theorem deliverVerdict_address {f : Frame} {a : Byte} (ha : f.provisional = some a) (s : State) :
    deliverVerdict f .address true s = { s with mc := { s.mc with address := a, mode := .standby } } := by
  simp only [deliverVerdict, ha, takeAddress, if_true]

/-- Settles O29: the frame is closed as a good one, and its verdict gives the address. -/
theorem addressEndTakesAddress : Obligations.AddressEndTakesAddress := by
  intro f L a s hp hl hg ha hgood
  rw [exec_frameEnd hp, State.validLink_up hl]
  simp only [State.endFrame, hg, hgood, deliverVerdict_address ha, if_true]
  rfl

end Sys2Proof.Machine
end

section
/-! SUPPORT. A link-down event: the abort of the frame in passage, the fall of the IN link, and the Mode Controller. -/

namespace Sys2Proof.Machine

/-! ### The abort and the IN link -/

/-- R188: with a frame in passage, the abort takes the symbols of the error run off the line. -/
theorem State.abortAtLinkDown_some {f : Frame} {s : State} (hf : s.fp.frame = some f) :
    s.abortAtLinkDown = { s with
      fp := { s.fp with frame := none }
      stats := { s.stats with aborted := satInc s.stats.aborted }
      store := { s.store with framePending := FramePending.empty }
      link := { s.link with
        line := drain (replaceTail (min s.link.errorRun f.arrived.length) [] s.link.line ++ [.abortDelimiter]) } } := by
  simp only [State.abortAtLinkDown, hf, State.abortFrame_eq, Bool.false_eq_true, false_and, if_false]

theorem State.abortAtLinkDown_none {s : State} (hf : s.fp.frame = none) : s.abortAtLinkDown = s := by
  simp only [State.abortAtLinkDown, hf]

/-- Of the link the abort changes the line only. -/
theorem State.abortAtLinkDown_link (s : State) :
    s.abortAtLinkDown.link = { s.link with line := s.abortAtLinkDown.link.line } := by
  cases hf : s.fp.frame with
  | none => rw [State.abortAtLinkDown_none hf]
  | some f => rw [State.abortAtLinkDown_some hf]

/-- R180: no frame end is left to leave. -/
theorem LinkInterface.fall_empty {l : LinkInterface} (h : ∀ x ∈ l.line, x.isEnding = false) :
    l.fall.out = .brk ∧ l.fall.line = [] := by
  have hn : ¬ l.line.any OutSym.isEnding = true := by simpa using h
  simp only [LinkInterface.fall, LinkInterface.breakIfEmpty, if_neg hn, and_self]

/-- R180: a frame end is left to leave. -/
theorem LinkInterface.fall_ending {l : LinkInterface} (h : ∃ x ∈ l.line, x.isEnding = true) :
    l.fall.out = l.out ∧ l.fall.line = l.line := by
  have hn : l.line.any OutSym.isEnding = true := by simpa using h
  simp only [LinkInterface.fall, LinkInterface.breakIfEmpty, if_pos hn, and_self]

/-- R177: what a link-down event does to the IN link, beside OUT and its line. -/
theorem LinkInterface.fall_frame (l : LinkInterface) : l.fall = { l with
    inState := .down, cleanIdles := 0, errorRun := 0, discarding := false
    out := l.fall.out, line := l.fall.line } := by
  unfold LinkInterface.fall LinkInterface.breakIfEmpty
  split <;> rfl

/-! ### The event -/

/-- The node at a link-down event, before the Mode Controller takes it. -/
def State.unlinked (s : State) : State :=
  { s with
    link := s.abortAtLinkDown.link.fall
    fp := { s.fp with frame := none }
    store := if s.fp.frame.isSome then { s.store with framePending := FramePending.empty } else s.store
    stats := { s.stats with
      linkDown := satInc s.stats.linkDown
      aborted := if s.fp.frame.isSome then satInc s.stats.aborted else s.stats.aborted } }

/-- R179: the link and the frame in passage come first, then the Mode Controller. -/
theorem State.linkDown_eq (s : State) : s.linkDown = s.unlinked.linkLost := by
  unfold State.linkDown State.unlinked
  cases hf : s.fp.frame with
  | none =>
    have hfp : { s.fp with frame := none } = s.fp := by rw [← hf]
    simp only [State.abortAtLinkDown_none hf, Option.isSome_none, Bool.false_eq_true, if_false, hfp]
  | some f => simp only [State.abortAtLinkDown_some hf, Option.isSome_some, if_true]

/-- The pin states do not depend on the link, nor on the frame-pending tier. -/
theorem State.unlinked_pinState (s : State) (n : Pin) : s.unlinked.pinState n = s.pinState n := by
  have hd : s.unlinked.store.dout = s.store.dout := by
    unfold State.unlinked
    dsimp only
    split <;> rfl
  unfold State.pinState
  rw [hd]
  rfl

/-- R139, R140: a RUNNING node enters FALLBACK with cause LINK. -/
theorem State.linkDown_running {s : State} (hm : s.mc.mode = .running) : EntersFallback .link s s.linkDown := by
  have ht : s.linkDown = s.unlinked.enterFallback .link := by
    rw [State.linkDown_eq]
    exact if_pos hm
  obtain ⟨hmc, hcount, hforce, hpins⟩ := State.enterFallback_spec .link s.unlinked
  rw [ht]
  refine ⟨hmc, hcount, hforce, fun n => ?_⟩
  rw [← s.unlinked_pinState n]
  exact hpins n

/-- R139: in every other mode the Mode Controller leaves the node as it is. -/
theorem State.linkDown_not_running {s : State} (hm : s.mc.mode ≠ .running) : s.linkDown = s.unlinked := by
  rw [State.linkDown_eq]
  exact if_neg hm

/-- What the Mode Controller can change at a link-down event. -/
theorem State.linkDown_frame (s : State) : s.linkDown = { s.unlinked with
    mc := s.linkDown.mc, pins := s.linkDown.pins
    sampler := { s.sampler with settle := s.linkDown.sampler.settle }
    stats := { s.unlinked.stats with fallbackEntries :=
      if s.mc.mode = .running then satInc s.stats.fallbackEntries else s.stats.fallbackEntries } } := by
  by_cases hm : s.mc.mode = .running
  · rw [if_pos hm, State.linkDown_eq, show s.unlinked.linkLost = s.unlinked.enterFallback .link from if_pos hm]
    exact State.enterFallback_frame .link s.unlinked
  · rw [if_neg hm, State.linkDown_not_running hm]
    rfl

/-- Settles O13: the abort and the IN link's fall give the line, and the Mode Controller then takes the event. -/
theorem linkDownEventEffects : Obligations.LinkDownEventEffects := by
  intro s hh hl
  have hlink : s.linkDown.link = s.abortAtLinkDown.link.fall := by rw [State.linkDown_frame]; rfl
  refine ⟨s.linkDown, congrArg Host.Outcome.next (if_pos ⟨hh, hl⟩), ?_, ?_, ?_, ?_, State.linkDown_running,
    fun hm => ?_, fun hf hn => ?_, fun hf he => ?_, fun f hf => ?_, ?_⟩
  · rw [hlink, LinkInterface.fall_frame, State.abortAtLinkDown_link]
  · rw [State.linkDown_frame]; rfl
  · rw [State.linkDown_frame]; rfl
  · rw [State.linkDown_frame]; rfl
  · rw [State.linkDown_not_running hm]
    exact ⟨rfl, rfl, rfl⟩
  · rw [hlink, State.abortAtLinkDown_none hf]
    exact LinkInterface.fall_empty hn
  · rw [hlink, State.abortAtLinkDown_none hf]
    exact LinkInterface.fall_ending he
  · rw [hlink, State.abortAtLinkDown_some hf]
    exact LinkInterface.fall_ending ⟨.abortDelimiter, mem_drain (by simp) rfl, rfl⟩
  · rw [State.linkDown_frame]; rfl

end Sys2Proof.Machine
end

section
/-! SUPPORT. Management segments that carry no request to this node: what leaves in the place of a segment that
completes, and the exchange slot at an EMPTY segment. -/

namespace Sys2Proof.Machine

/-! ### The bytes of a segment -/

theorem any_damages_bytes (bytes : List Byte) : (bytes.map Sym.byte).any Sym.damages = false := by
  simp [Sym.damages]

/-- Entry 6: a last symbol that is no symbol error ends the run of errors. -/
theorem errorRunAfter_concat {x : Sym} (h : x ≠ .error) (run : Nat) (syms : List Sym) :
    errorRunAfter run (syms ++ [x]) = 0 := by
  simp only [errorRunAfter, List.foldl_append, List.foldl_cons, List.foldl_nil, if_neg h]

theorem errorRunAfter_bytes {bytes : List Byte} (h : bytes ≠ []) (run : Nat) :
    errorRunAfter run (bytes.map Sym.byte) = 0 := by
  rw [← List.dropLast_concat_getLast h, List.map_append]
  exact errorRunAfter_concat (x := .byte _) nofun run _

/-- R193: a payload of up to 32 bytes, then zeros. -/
theorem payload32_eq {p : List Byte} (h : p.length ≤ 32) : payload32 p = p ++ List.replicate (32 - p.length) 0 := by
  refine List.ext_getElem (by simp [payload32, h]) fun i hi _ => ?_
  by_cases hp : i < p.length
  · simp [payload32, hp]
  · simp [payload32, hp, List.getElem_append_right (Nat.not_lt.1 hp)]

@[simp] theorem Response.bytes_length (r : Response) (address : Byte) : (r.bytes address).length = 40 := by
  simp [Response.bytes, withCheck, payload32, bytes16]

/-! ### A segment completes -/

/-- R149, R151: forty bytes complete in the frame as `bytes` and leave as `out`. -/
theorem State.passSegment_bytes {f : Frame} {bytes : List Byte} (hb : bytes.length = 40)
    (hf : f.arrived.length < 48) (out : List OutSym) (s : State) :
    s.passSegment f (bytes.map Sym.byte) out = { s with
      fp := { s.fp with frame := some { f with
        arrived := f.arrived ++ (bytes.drop (f.arrived.length - 8)).map Sym.byte } }
      link := { s.link with
        line := drain (replaceTail (f.arrived.length - 8) (out.take (f.arrived.length - 8)) s.link.line
          ++ out.drop (f.arrived.length - 8))
        errorRun := 0 } } := by
  have hne : bytes.drop (f.arrived.length - 8) ≠ [] := by
    rw [ne_eq, List.drop_eq_nil_iff, hb]
    omega
  rw [State.passSegment, ← List.map_drop]
  simp only [State.passSymbols, any_damages_bytes, errorRunAfter_bytes hne, Bool.or_false]
  rfl

/-- Settles O31: the forty bytes of the response take the place of the forty that arrived. -/
theorem responseReplacesSegment : Obligations.ResponseReplacesSegment := by
  intro f bytes r address s hb _ hf hp k body sent
  have hsent : (r.bytes address).map OutSym.data = sent := by
    rw [Response.bytes, payload32_eq hp]
    exact congrArg (List.map OutSym.data) (congrArg withCheck (List.append_assoc _ _ _).symm)
  constructor
  · rw [← hsent, List.length_map, Response.bytes_length]
  · rw [State.answerSegment, hsent]
    exact State.passSegment_bytes hb hf sent s

/-! ### Who is handed a segment -/

/-- R149: the two ways a segment is not handed over. -/
theorem State.handsOver_eq_false {f : Frame} {s : State} (h : s.mc.address = 0 ∨ f.header = .bad) :
    s.handsOver f = false := by
  rcases h with h | h <;> simp [State.handsOver, h]

/-- Settles O32: the three cases are those in which the request is not handled. -/
theorem requestToOthersForwarded : Obligations.RequestToOthersForwarded := by
  intro f c code rq s hc hp hd hcase
  have hothers : ¬ (s.handsOver f = true ∧ rq.address = s.mc.address) := fun ⟨hh, ha⟩ =>
    hcase.elim (fun hne => hne ha) fun h => Bool.false_ne_true ((State.handsOver_eq_false h).symm.trans hh)
  constructor
  · rw [exec_anyRequest hc, State.withRequest_of_others hp hd hothers]
  · exact State.passSegment_bytes (requestBytes_length code rq) (Frame.hasSegment_of_segmentDue hd).2 _ s

/-! ### EMPTY segments and bad segments -/

section
variable {f : Frame} {bytes : List Byte} {rest : List Sym} {s : State}

theorem exec_emptySegment {body : List Byte} (hp : s.passing f) (hd : f.segmentDue (emptyBytes body) = true) :
    exec (.emptySegment body) s = .next (s.emptyArrives f (emptyBytes body)) := by
  obtain ⟨hheld, hframe⟩ := hp
  simp only [exec, execEmptySegment, hheld, hframe, hd, Bool.false_eq_true, if_false, if_true]

theorem exec_badSegment (hp : s.passing f) (hd : f.badSegmentDue rest = true) :
    exec (.badSegment rest) s = .next (s.badSegmentArrives f rest) := by
  obtain ⟨hheld, hframe⟩ := hp
  simp only [exec, execBadSegment, hheld, hframe, hd, Bool.false_eq_true, if_false, if_true]

/-- R159: an EMPTY segment that is handed over carries the pending result away. -/
theorem State.emptyArrives_answering {r : Response} (hs : s.mx.slot = .answering r) (hh : s.handsOver f = true) :
    s.emptyArrives f bytes = (s.setSlot .idle).answerSegment f bytes r s.mc.address := by
  simp only [State.emptyArrives, hs, if_pos hh]

/-- R159: without a pending result, or not handed over, an EMPTY segment is forwarded. -/
theorem State.emptyArrives_forwarded (h : (∀ r, s.mx.slot ≠ .answering r) ∨ s.handsOver f = false) :
    s.emptyArrives f bytes = s.forwardSegment f bytes := by
  unfold State.emptyArrives
  split
  · rename_i r hs
    have hh : s.handsOver f = false := h.resolve_left fun hn => hn r hs
    rw [hh, if_neg Bool.false_ne_true]
  · rfl

/-- R150: a bad segment is forwarded, and counted where it is handed over. -/
theorem State.badSegmentArrives_eq (f : Frame) (rest : List Sym) (s : State) : s.badSegmentArrives f rest = { s with
    stats := if s.handsOver f then { s.stats with headerErrors := satInc s.stats.headerErrors } else s.stats
    fp := { s.fp with frame := some { f with
      arrived := f.arrived ++ rest, damaged := f.damaged || rest.any Sym.damages } }
    link := { s.link with
      line := drain (s.link.line ++ rest.map Sym.out), errorRun := errorRunAfter s.link.errorRun rest } } := by
  unfold State.badSegmentArrives
  dsimp only
  split <;> rfl

end

/-- Settles O33: the slot decides at an EMPTY segment, the hand-over at a bad one. -/
theorem emptyAndBadSegments : Obligations.EmptyAndBadSegments := by
  refine ⟨fun f body s hp hd => ⟨fun r hs hh => ?_, fun h => ?_⟩, fun f rest s hp hd => ?_⟩
  · rw [exec_emptySegment hp hd, State.emptyArrives_answering hs hh]
    rfl
  · rw [exec_emptySegment hp hd, State.emptyArrives_forwarded h]
  · rw [exec_badSegment hp hd, State.badSegmentArrives_eq]

end Sys2Proof.Machine
end

section
/-! SUPPORT. Replayable and long requests by the state of the exchange slot, and the three requests of the view and the
tables. -/

namespace Sys2Proof.Machine

/-- Settles O35: the slot decides before the request is executed, whatever its code. -/
theorem requestLeftDisplacedOrReplayed : Obligations.RequestLeftDisplacedOrReplayed := by
  intro f c code rq s hc hm
  obtain ⟨perform, hx⟩ := exec_replayableOrLong hc
  have hexec : exec c s = _ := (hx s).trans (congrArg _ (State.withRequest_of_meets hm _))
  refine ⟨fun tag op hs => ?_, fun r hs => ?_, fun r hs hl ht hcode => ?_⟩
  · rw [hexec, replayable_working hs]
    rfl
  · rw [hexec, replayable_answering hs]
    rfl
  · rw [hexec, replayable_replay hs hl ht hcode]
    rfl

/-! ### OPEN VIEW -/

/-- Table 10-14: the tables beyond the fourth. -/
theorem TableId.ofCode_unknown {c : Byte} (h : 3 < c.toNat) : TableId.ofCode c = none := by
  have hne : c ≠ 0 ∧ c ≠ 1 ∧ c ≠ 2 ∧ c ≠ 3 := by
    refine ⟨?_, ?_, ?_, ?_⟩ <;> (rintro rfl; exact absurd h (by decide))
  obtain ⟨h0, h1, h2, h3⟩ := hne
  simp only [TableId.ofCode, if_neg h0, if_neg h1, if_neg h2, if_neg h3]

/-- Tables 10-14 and 1-1: the four tables and their sizes. -/
theorem TableId.ofCode_known {c : Byte} {table : TableId} {size : Nat}
    (h : c = 0 ∧ table = .slot ∧ size = 32 ∨ c = 1 ∧ table = .pin ∧ size = 24 ∨ c = 2 ∧ table = .func ∧ size = 8 ∨
      c = 3 ∧ table = .policy ∧ size = 1) : TableId.ofCode c = some table ∧ table.size = size := by
  rcases h with ⟨rfl, rfl, rfl⟩ | ⟨rfl, rfl, rfl⟩ | ⟨rfl, rfl, rfl⟩ | ⟨rfl, rfl, rfl⟩ <;> exact ⟨rfl, rfl⟩

/-- R164: the two codes of a role. -/
theorem roleOfCode_known {c : Byte} {role : Role} (h : c = 0 ∧ role = .active ∨ c = 1 ∧ role = .staged) :
    ¬ 1 < c.toNat ∧ (if c = 0 then Role.active else .staged) = role := by
  rcases h with ⟨rfl, rfl⟩ | ⟨rfl, rfl⟩ <;> decide

section
variable {rq : Request} {s : State}

theorem openView_badLength (h : rq.length ≠ 3) : openView rq s = (.plain stBadLength 0, s) :=
  if_pos fun hz => h (requestSize_eq_iff.1 hz)

/-- R164: a role or a table that does not exist. -/
theorem openView_unknown (h : rq.length = 3)
    (hr : 1 < (requestByte rq 0).toNat ∨ TableId.ofCode (requestByte rq 1) = none) :
    openView rq s = (.plain stRange 0, s) := by
  have hs : requestSize rq = 3 := requestSize_eq_iff.2 h
  unfold openView
  rw [if_neg (not_not_intro hs)]
  split
  · rfl
  · rename_i t ht
    exact if_pos (hr.resolve_right (by simp [ht]))

section
variable {t : TableId} (h : rq.length = 3) (hr : ¬ 1 < (requestByte rq 0).toNat)
  (ht : TableId.ofCode (requestByte rq 1) = some t)
include h hr ht

/-- R164: a row beyond the table. -/
theorem openView_beyond (hn : t.size ≤ (requestByte rq 2).toNat) : openView rq s = (.plain stRange 0, s) := by
  have hs : requestSize rq = 3 := requestSize_eq_iff.2 h
  unfold openView
  rw [if_neg (not_not_intro hs), ht]
  simp only [if_neg hr, if_pos hn]

/-- R164: what passes the checks sets the view. -/
theorem openView_opened (hn : (requestByte rq 2).toNat < t.size) :
    openView rq s = (.plain stOk 0, { s with mx := { s.mx with
      view := ⟨if requestByte rq 0 = 0 then .active else .staged, t, (requestByte rq 2).toNat⟩ } }) := by
  have hs : requestSize rq = 3 := requestSize_eq_iff.2 h
  unfold openView
  rw [if_neg (not_not_intro hs), ht]
  simp only [if_neg hr, if_neg (Nat.not_le_of_lt hn)]

end

end

/-- Settles O36: the checks of R164 in their order. -/
theorem openViewSetsView : Obligations.OpenViewSetsView := by
  intro f rq s hm b answers
  refine ⟨fun hl => ?_, fun hl hr => ?_, fun role table size hl hrole htable => ?_⟩
  · exact congrArg _ (State.withRequest_records hm (openView_badLength hl))
  · exact congrArg _ (State.withRequest_records hm
      (openView_unknown hl (hr.imp_right TableId.ofCode_unknown)))
  · obtain ⟨hr, rfl⟩ := roleOfCode_known hrole
    obtain ⟨ht, rfl⟩ := TableId.ofCode_known htable
    exact ⟨fun hn => congrArg _ (State.withRequest_records hm (openView_beyond hl hr ht hn)),
      fun hn => congrArg _ (State.withRequest_records hm (openView_opened hl hr ht hn))⟩

/-! ### READ ROWS -/

section
variable {rq : Request} {s : State}

theorem readRows_badLength (h : rq.length ≠ 1) : readRows rq s = (.plain stBadLength 0, s) :=
  if_pos fun hz => h (requestSize_eq_iff.1 hz)

section
variable (h : rq.length = 1)
include h

/-- R165: fewer than one row or more than four. -/
theorem readRows_count (hn : (requestByte rq 0).toNat = 0 ∨ 4 < (requestByte rq 0).toNat) :
    readRows rq s = (.plain stRange 0, s) :=
  (if_neg (not_not_intro (requestSize_eq_iff.2 h))).trans (if_pos (hn.imp_left Nat.lt_one_iff.2))

variable (h1 : 1 ≤ (requestByte rq 0).toNat) (h4 : (requestByte rq 0).toNat ≤ 4)
include h1 h4

/-- R165: rows beyond the table. -/
theorem readRows_beyond (hv : s.mx.view.table.size < s.mx.view.next + (requestByte rq 0).toNat) :
    readRows rq s = (.plain stRange 0, s) :=
  (if_neg (not_not_intro (requestSize_eq_iff.2 h))).trans <|
    (if_neg (not_or.2 ⟨Nat.not_lt.2 h1, Nat.not_lt.2 h4⟩)).trans (if_pos hv)

/-- R15, R165: the rows from the view's next row on. -/
theorem readRows_read (hv : s.mx.view.next + (requestByte rq 0).toNat ≤ s.mx.view.table.size) :
    readRows rq s =
      (⟨stOk, 0, (List.range (requestByte rq 0).toNat).flatMap fun k =>
          ((s.banks.inRole s.mx.view.role).row s.mx.view.table (s.mx.view.next + k)).bytes, true⟩,
        s.advanceView (requestByte rq 0).toNat) := by
  refine (if_neg (not_not_intro (requestSize_eq_iff.2 h))).trans <|
    (if_neg (not_or.2 ⟨Nat.not_lt.2 h1, Nat.not_lt.2 h4⟩)).trans <| (if_neg (Nat.not_lt.2 hv)).trans ?_
  rw [Bank.rows, List.flatMap_map]

end

end

/-- Settles O37: the checks of R165 in their order; what is read comes from the bank in the view's role. -/
theorem readRowsReadsView : Obligations.ReadRowsReadsView := by
  intro f rq s hm n v bank answers
  have hbank : s.banks.inRole v.role = bank := by
    simp only [bank]
    cases v.role <;> rfl
  refine ⟨fun hl => ?_, fun hl hn => ?_, fun hl h1 h4 hv => ?_, fun hl h1 h4 hv => ?_⟩
  · exact congrArg _ (State.withRequest_records hm (readRows_badLength hl))
  · exact congrArg _ (State.withRequest_records hm (readRows_count hl hn))
  · exact congrArg _ (State.withRequest_records hm (readRows_beyond hl h1 h4 (by exact hv)))
  · rw [← hbank]
    exact congrArg _ (State.withRequest_executes hm _ _ _ (readRows_read (s := s.countConsumed) hl h1 h4 hv))

/-! ### WRITE ROWS -/

/-- R166: the lengths of one to four whole rows. -/
def wholeRows (size : Nat) : Prop := size = 8 ∨ size = 16 ∨ size = 24 ∨ size = 32

theorem not_wholeRows_iff {size : Nat} : ¬ wholeRows size ↔ size ≠ 8 ∧ size ≠ 16 ∧ size ≠ 24 ∧ size ≠ 32 := by
  simp only [wholeRows, not_or, ne_eq]

/-- Table 10-6: eight bytes in row order make a row with these bytes. -/
theorem Row.bytes_ofBytes (g : Nat → Byte) : (Row.ofBytes ((List.range 8).map g)).bytes = (List.range 8).map g :=
  rfl

section
variable {rq : Request} {s : State}

theorem writeRows_readOnly (hr : s.mx.view.role = .active) : writeRows rq s = (.plain stReadOnly 0, s) :=
  if_pos hr

section
variable (hr : s.mx.view.role = .staged)
include hr

theorem writeRows_badLength (hw : ¬ wholeRows (requestSize rq)) : writeRows rq s = (.plain stBadLength 0, s) :=
  (if_neg (by simp [hr])).trans (if_pos (not_wholeRows_iff.1 hw))

variable (hw : wholeRows (requestSize rq))
include hw

/-- R166: rows beyond the table. -/
theorem writeRows_beyond (hv : s.mx.view.table.size < s.mx.view.next + requestSize rq / 8) :
    writeRows rq s = (.plain stRange 0, s) :=
  (if_neg (by simp [hr])).trans <| (if_neg fun hn => not_wholeRows_iff.2 hn hw).trans (if_pos hv)

/-- R14, R166: the rows are stored from the view's next row on. -/
theorem writeRows_stored (hv : s.mx.view.next + requestSize rq / 8 ≤ s.mx.view.table.size) :
    writeRows rq s =
      (.plain stOk (if s.banks.armed = none then 0 else 0x04),
        (s.storeRows s.mx.view.table s.mx.view.next (requestRows rq (requestSize rq / 8))).advanceView
          (requestSize rq / 8)) := by
  rw [← disarmedFlag_eq]
  exact (if_neg (by simp [hr])).trans <|
    (if_neg fun hn => not_wholeRows_iff.2 hn hw).trans (if_neg (Nat.not_lt.2 hv))

end

end

@[simp] theorem requestRows_length (rq : Request) (n : Nat) : (requestRows rq n).length = n := by
  simp [requestRows]

section
variable {t : TableId} {i n : Nat} (rq : Request) (s : State)

/-- The rows stored are those of the request. -/
theorem State.row_storeRows_same {k : Nat} (hk : k < n) (h : i + n ≤ t.size) :
    ((s.storeRows t i (requestRows rq n)).banks.stagedBank.row t (i + k)).bytes =
      (List.range 8).map fun j => requestByte rq (8 * k + j) := by
  have hb : (s.storeRows t i (requestRows rq n)).banks.stagedBank =
    s.banks.stagedBank.setRows t i (requestRows rq n) := BankUnit.stagedBank_setStaged s.banks _
  rw [hb, Bank.row_setRows_same t _ _ i k (by simpa using hk) (by simpa using h)]
  simp only [requestRows, List.getElem_map, List.getElem_range]
  exact Row.bytes_ofBytes _

/-- Every other row of the STAGED bank is left alone. -/
theorem State.row_storeRows_other {t' : TableId} {j : Nat} (h : ¬ (t' = t ∧ i ≤ j ∧ j < i + n)) :
    (s.storeRows t i (requestRows rq n)).banks.stagedBank.row t' j = s.banks.stagedBank.row t' j := by
  have hb : (s.storeRows t i (requestRows rq n)).banks.stagedBank =
    s.banks.stagedBank.setRows t i (requestRows rq n) := BankUnit.stagedBank_setStaged s.banks _
  rw [hb, Bank.row_setRows_other t t' j _ _ i (by simpa using h)]

end

/-- Settles O38: the checks of R166 in their order; the stored rows are read back by the laws of `Bank.setRows`. -/
theorem writeRowsStoresInStaged : Obligations.WriteRowsStoresInStaged := by
  intro f rq s hm size n v whole answers
  refine ⟨fun hr => ?_, fun hr hw => ?_, fun hr hw hv => ?_, fun hr hw hv => ?_⟩
  · exact congrArg _ (State.withRequest_records hm (writeRows_readOnly (by exact hr)))
  · exact congrArg _ (State.withRequest_records hm (writeRows_badLength (by exact hr) hw))
  · exact congrArg _ (State.withRequest_records hm (writeRows_beyond (by exact hr) hw (by exact hv)))
  · refine ⟨(s.storeRows v.table v.next (requestRows rq n)).banks, ?_, rfl, BankUnit.active_setStaged _ _,
      BankUnit.gen_setStaged _ _, BankUnit.longOp_setStaged _ _, BankUnit.activeBank_setStaged _ _, fun k hk => ?_,
      fun table i hn => ?_⟩
    · exact congrArg _ (State.withRequest_records hm (writeRows_stored (s := s.countConsumed) hr hw hv))
    · exact State.row_storeRows_same rq s hk hv
    · exact State.row_storeRows_other rq s hn

end Sys2Proof.Machine
end

section
/-! SUPPORT. A single symbol that completes a header, a field or a segment: it clears the run of symbol errors first,
where it is a valid one, and what it completes does not depend on that run. -/

namespace Sys2Proof.Machine

/-! ### The run of symbol errors -/

/-- Entry 6: the node with no symbol error since the last valid symbol. -/
def State.runCleared (s : State) : State := { s with link := { s.link with errorRun := 0 } }

/-- A valid symbol at an UP link clears the run and changes nothing else of the link. -/
theorem State.validLink_runCleared {s : State} (h : s.link.inState = .up) (isIdle : Bool) :
    s.validLink isIdle = s.runCleared :=
  State.validLink_up h isIdle

/-- A handler of requests that does not look at the run of symbol errors, and leaves it alone. -/
def ReadsNoRun {α : Type} (g : State → α × State) : Prop :=
  ∀ s, g s.runCleared = Prod.map id State.runCleared (g s)

/-- A choice between two such handlers by what does not depend on the run. -/
theorem ReadsNoRun.ite {α : Type} {c : State → Prop} [DecidablePred c] {g h : State → α × State}
    (hc : ∀ s, c s.runCleared = c s) (hg : ReadsNoRun g) (hh : ReadsNoRun h) :
    ReadsNoRun fun s => if c s then g s else h s := by
  intro s
  simp only [hc]
  split
  · exact hg s
  · exact hh s

theorem ReadsNoRun.noPayload {rq : Request} {perform : State → Answer × State} (h : ReadsNoRun perform) :
    ReadsNoRun (Machine.noPayload rq perform) :=
  .ite (fun _ => rfl) (fun _ => rfl) h

/-- Each of the fourteen executions. -/
theorem Execution.readsNoRun {rq : Request} {perform : State → Answer × State} (h : Execution rq perform) :
    ReadsNoRun perform := by
  cases h with
  | openView =>
    intro s
    unfold Machine.openView
    repeat' split
    all_goals rfl
  | readRows =>
    exact .ite (fun _ => rfl) (fun _ => rfl) (.ite (fun _ => rfl) (fun _ => rfl)
      (.ite (fun _ => rfl) (fun _ => rfl) fun _ => rfl))
  | writeRows =>
    exact .ite (fun _ => rfl) (fun _ => rfl) (.ite (fun _ => rfl) (fun _ => rfl)
      (.ite (fun _ => rfl) (fun _ => rfl) fun _ => rfl))
  | clone => exact .noPayload fun _ => rfl
  | arm => exact .ite (fun _ => rfl) (fun _ => rfl) (.ite (fun _ => rfl) (fun _ => rfl) fun _ => rfl)
  | disarm => exact .noPayload fun _ => rfl
  | forcePin =>
    intro s
    unfold Machine.forcePin
    split
    · rfl
    split
    · split
      · rfl
      · rw [apply_ite (Prod.map id State.runCleared)]
        rfl
    · rfl
  | releasePin =>
    intro s
    unfold Machine.releasePin
    repeat' split
    all_goals rfl
  | enterFallback =>
    exact .noPayload (.ite (fun _ => rfl) (fun _ => rfl) (.ite (fun _ => rfl) (fun _ => rfl) fun _ => rfl))
  | resume => exact .noPayload (.ite (fun _ => rfl) (fun _ => rfl) fun _ => rfl)
  | releaseAddress => exact .noPayload (.ite (fun _ => rfl) (fun _ => rfl) fun _ => rfl)
  | restart => exact .noPayload fun _ => rfl
  | clearStats => exact .noPayload fun _ => rfl
  | clearCause => exact .noPayload fun _ => rfl

theorem ReadsNoRun.atOnce {code : Byte} {rq : Request} {answer : State → Answer}
    (ha : ∀ s, answer s.runCleared = answer s) : ReadsNoRun (answerAtOnce code rq answer) := by
  intro s
  rw [answerAtOnce, ha]
  rfl

theorem ReadsNoRun.readOnly {code : Byte} {rq : Request} {payload : State → List Byte}
    (hp : ∀ s, payload s.runCleared = payload s) : ReadsNoRun (answerAtOnce code rq (readOnlyAnswer rq payload)) :=
  .atOnce fun s => by rw [readOnlyAnswer, hp]; rfl

theorem ReadsNoRun.execute {code : Byte} {rq : Request} {perform : State → Answer × State} (h : ReadsNoRun perform) :
    ReadsNoRun (executeRequest code rq perform) := by
  intro s
  have hs : perform s.runCleared.countConsumed = _ := h s.countConsumed
  unfold executeRequest
  rw [hs]
  obtain ⟨a, t⟩ := perform s.countConsumed
  dsimp only [Prod.map, id]
  split <;> rfl

/-- The slot and the last-answered record decide, not the link. -/
theorem ReadsNoRun.bySlot {code : Byte} {rq : Request} {perform : State → Answer × State} (h : Execution rq perform) :
    ReadsNoRun (replayable code rq perform) := by
  intro s
  cases hslot : s.mx.slot with
  | working tag op =>
    rw [replayable_working hslot, replayable_working (s := s.runCleared) hslot]
    rfl
  | answering r =>
    rw [replayable_answering hslot, replayable_answering (s := s.runCleared) hslot]
    rfl
  | idle =>
    have hmx : s.runCleared.mx = s.mx := rfl
    simp only [replayable, hmx, hslot]
    split
    · rfl
    · exact h.readsNoRun.execute s

/-- Table 10-12: no request's handler looks at the run. -/
theorem handleRequest_readsNoRun (code : Byte) (rq : Request) : ReadsNoRun (handleRequest code rq) := by
  unfold handleRequest
  iterate 3 refine iteInduction (fun _ => .readOnly fun _ => rfl) fun _ => ?_
  iterate 14 refine iteInduction (fun _ => .bySlot (by constructor)) fun _ => ?_
  exact .atOnce fun _ => rfl

/-! ### What a position completes does not depend on the run -/

section
variable {f : Frame} {x : Sym} {bytes : List Byte} {s : State}

theorem State.passSymbols_runCleared (hx : x ≠ .error) (out : List OutSym) :
    s.runCleared.passSymbols f [x] out = s.passSymbols f [x] out := by
  have hrun : ∀ run, errorRunAfter run [x] = 0 := fun run => errorRunAfter_concat hx run []
  simp only [State.passSymbols, hrun]
  rfl

theorem State.headerArrives_runCleared (hx : x ≠ .error) :
    s.runCleared.headerArrives f [x] = s.headerArrives f [x] := by
  unfold State.headerArrives
  split
  · exact State.passSymbols_runCleared
      (s := s.setStats { s.stats with headerErrors := satInc s.stats.headerErrors }) hx _
  · rfl

theorem State.fieldArrives_runCleared (hx : x ≠ .error) :
    s.runCleared.fieldArrives f [x] = s.fieldArrives f [x] := by
  have hline : ∀ line, { s.runCleared with link := { s.runCleared.link with line := line } } =
    State.runCleared { s with link := { s.link with line := line } } := fun _ => rfl
  unfold State.fieldArrives
  simp only [hline, State.passSymbols_runCleared hx]
  rfl

theorem State.badSegmentArrives_runCleared (hx : x ≠ .error) :
    s.runCleared.badSegmentArrives f [x] = s.badSegmentArrives f [x] := by
  have hrun : ∀ run, errorRunAfter run [x] = 0 := fun run => errorRunAfter_concat hx run []
  simp only [State.badSegmentArrives_eq, hrun]
  rfl

theorem State.passSegment_runCleared (hb : bytes.length = 40) (hf : f.arrived.length < 48) (out : List OutSym) :
    s.runCleared.passSegment f (bytes.map Sym.byte) out = s.passSegment f (bytes.map Sym.byte) out := by
  simp only [State.passSegment_bytes hb hf]
  rfl

theorem State.emptyArrives_runCleared (hb : bytes.length = 40) (hf : f.arrived.length < 48) :
    s.runCleared.emptyArrives f bytes = s.emptyArrives f bytes := by
  have hmx : s.runCleared.mx = s.mx := rfl
  have hh : s.runCleared.handsOver f = s.handsOver f := rfl
  unfold State.emptyArrives
  rw [hmx, hh]
  split
  · split
    · exact State.passSegment_runCleared (s := s.setSlot _) hb hf _
    · exact State.passSegment_runCleared hb hf _
  · exact State.passSegment_runCleared hb hf _

theorem State.requestArrives_runCleared (hb : bytes.length = 40) (hf : f.arrived.length < 48) (code : Byte)
    (rq : Request) : s.runCleared.requestArrives f bytes rq (handleRequest code rq) =
      s.requestArrives f bytes rq (handleRequest code rq) := by
  have hh : s.runCleared.handsOver f = s.handsOver f := rfl
  have ha : s.runCleared.mc = s.mc := rfl
  unfold State.requestArrives
  rw [hh, ha, handleRequest_readsNoRun code rq s]
  split
  · obtain ⟨r, t⟩ := handleRequest code rq s
    cases r <;> exact State.passSegment_runCleared hb hf _
  · exact State.passSegment_runCleared hb hf _

end

end Sys2Proof.Machine
end

section
/-! SUPPORT. A segment whose last symbol arrives by itself is read back from its forty bytes; the single symbol then has
the effect of the row's step. -/

namespace Sys2Proof.Machine

/-! ### A segment read back from its bytes -/

theorem map_value_bytes (bytes : List Byte) : (bytes.map Sym.byte).map Sym.value = bytes := by
  rw [List.map_map]
  exact List.map_id _

/-- R150: thirty-eight bytes of a known kind with their check make no bad segment. -/
theorem badSegmentSyms_withCheck {body : List Byte} (hl : body.length = 38) (hk : (body.getD 0 0).toNat ≤ 2) :
    badSegmentSyms ((withCheck body).map Sym.byte) = false := by
  have hkind : (withCheck body).getD 0 0 = body.getD 0 0 := by
    cases body with
    | nil => cases hl
    | cons b bs => rfl
  simp only [badSegmentSyms, any_damages_bytes, map_value_bytes, hkind, Bool.false_or]
  rw [withCheck, List.take_left' hl, List.drop_left' hl]
  simpa using hk

/-- R150: a symbol that is no byte makes a segment bad. -/
theorem badSegmentSyms_of_damages {x : Sym} (hx : Sym.damages x = true) (syms : List Sym) :
    badSegmentSyms (syms ++ [x]) = true := by
  simp [badSegmentSyms, hx]

theorem badSegmentSyms_emptyBytes (body : List Byte) : badSegmentSyms ((emptyBytes body).map Sym.byte) = false :=
  badSegmentSyms_withCheck (by simp) (Nat.zero_le 2)

theorem badSegmentSyms_requestBytes (code : Byte) (rq : Request) :
    badSegmentSyms ((requestBytes code rq).map Sym.byte) = false :=
  badSegmentSyms_withCheck (by simp [payload32]) (Nat.le_succ 1)

/-- R193: a request is read back from its bytes. -/
theorem Request.ofBytes_requestBytes {rq : Request} (h : rq.payload.length = 32) (code : Byte) :
    Request.ofBytes (requestBytes code rq) = rq := by
  have hp : ((requestBytes code rq).drop 6).take 32 = rq.payload := by
    have h32 : payload32 rq.payload = rq.payload := by
      rw [payload32_eq (Nat.le_of_eq h), h]
      exact List.append_nil _
    exact (List.take_left' (by simp [payload32])).trans h32
  rw [Request.ofBytes, hp]
  rfl

section
variable {f : Frame} {rest : List Sym} {s : State}

/-- R150: a bad segment. -/
theorem State.segmentArrives_bad (h : badSegmentSyms (f.arrived.drop 8 ++ rest) = true) :
    s.segmentArrives f rest = s.badSegmentArrives f rest :=
  if_pos h

/-- R159: an EMPTY segment. -/
theorem State.segmentArrives_empty {body : List Byte}
    (h : f.arrived.drop 8 ++ rest = (emptyBytes body).map Sym.byte) :
    s.segmentArrives f rest = s.emptyArrives f (emptyBytes body) := by
  unfold State.segmentArrives
  dsimp only
  rw [h, badSegmentSyms_emptyBytes, map_value_bytes]
  rfl

/-- R153: a REQUEST segment. -/
theorem State.segmentArrives_request {code : Byte} {rq : Request} (hp : rq.payload.length = 32)
    (h : f.arrived.drop 8 ++ rest = (requestBytes code rq).map Sym.byte) :
    s.segmentArrives f rest = s.requestArrives f (requestBytes code rq) rq (handleRequest code rq) := by
  unfold State.segmentArrives
  dsimp only
  rw [h, badSegmentSyms_requestBytes, map_value_bytes, Request.ofBytes_requestBytes hp]
  rfl

/-- R159: a RESPONSE segment. -/
theorem State.segmentArrives_response {body : List Byte} (hl : body.length = 37)
    (h : f.arrived.drop 8 ++ rest = (withCheck (2 :: body)).map Sym.byte) :
    s.segmentArrives f rest = s.forwardSegment f (withCheck (2 :: body)) := by
  unfold State.segmentArrives
  dsimp only
  rw [h, badSegmentSyms_withCheck (body := 2 :: body) (by simp [hl]) (Nat.le_refl 2), map_value_bytes]
  rfl

/-- A segment whose last byte arrives by itself is due. -/
theorem Frame.segmentDue_of_last {b : Byte} {bytes : List Byte} (hl : f.lastOfSegment = true)
    (h : f.arrived.drop 8 ++ [.byte b] = bytes.map Sym.byte) : f.segmentDue bytes = true := by
  obtain ⟨hs, hlen⟩ := Frame.hasSegment_of_lastOfSegment hl
  have hd : f.arrived.drop 8 = (bytes.take 39).map Sym.byte := by
    rw [List.map_take, ← h, List.take_left' (by simp [hlen])]
  simp [Frame.segmentDue, hs, hlen, hd]

/-! ### Which part a single symbol completes -/

theorem exec_frameHeader (hp : s.passing f) (hd : f.headerDue rest = true) :
    exec (.frameHeader rest) s = .next (s.headerArrives f rest) := by
  obtain ⟨hheld, hframe⟩ := hp
  simp only [exec, execFrameHeader, hheld, hframe, hd, Bool.false_eq_true, if_false, if_true]

/-- A header is completed before it is judged. -/
theorem Frame.headerDue_eq_false (h : f.header ≠ .awaited) : f.headerDue rest = false :=
  Bool.eq_false_iff.2 fun hd => h (Frame.headerDue_iff.1 hd).1

variable {x : Sym}

theorem State.symbolInFrame_header (hd : f.headerDue [x] = true) : s.symbolInFrame f x = s.headerArrives f [x] :=
  if_pos hd

theorem State.symbolInFrame_field (hd : f.fieldDue [x] = true) : s.symbolInFrame f x = s.fieldArrives f [x] := by
  have hh : f.headerDue [x] = false := Frame.headerDue_eq_false (Frame.header_ne_awaited_of_fieldDue hd).1
  simp only [State.symbolInFrame, hh, hd, Bool.false_eq_true, if_false, if_true]

theorem State.symbolInFrame_segment (hd : f.lastOfSegment = true) :
    s.symbolInFrame f x = s.segmentArrives f [x] := by
  obtain ⟨hs, hlen⟩ := Frame.hasSegment_of_lastOfSegment hd
  have hh : f.headerDue [x] = false := Frame.headerDue_eq_false (Frame.header_ne_awaited_of_hasSegment hs)
  have hf : f.fieldDue [x] = false := Bool.eq_false_iff.2 fun hf => by
    have h10 := (Frame.header_ne_awaited_of_fieldDue hf).2
    simp [hlen] at h10
  simp only [State.symbolInFrame, hh, hf, hd, Bool.false_eq_true, if_false, if_true]

/-- A bad segment that one symbol completes is completed by its last symbol. -/
theorem Frame.lastOfSegment_of_badSegmentDue (hd : f.badSegmentDue [x] = true) : f.lastOfSegment = true := by
  obtain ⟨hs, hlen⟩ := Frame.hasSegment_of_badSegmentDue hd
  simp only [List.length_singleton] at hlen
  simp [Frame.lastOfSegment, hs, show f.arrived.length = 47 by omega]

theorem Frame.badSegmentDue_iff : f.badSegmentDue [x] = true ↔
    f.lastOfSegment = true ∧ badSegmentSyms (f.arrived.drop 8 ++ [x]) = true := by
  refine ⟨fun hd => ⟨Frame.lastOfSegment_of_badSegmentDue hd, ?_⟩, fun ⟨hl, hb⟩ => ?_⟩
  · exact (Bool.and_eq_true_iff.1 hd).2
  · obtain ⟨hs, hlen⟩ := Frame.hasSegment_of_lastOfSegment hl
    simp [Frame.badSegmentDue, hs, hlen, hb]

/-! ### The single symbols -/

/-- R177, R178, R182: this command brings `x` as the next position of the frame `f` in passage: a symbol error as it is,
any other symbol after the link has cleared its run of symbol errors. -/
def Brings (c : Instr) (f : Frame) (x : Sym) (s : State) : Prop :=
  ∃ t : State, exec c s = .next (t.symbolInFrame f x) ∧ (t = s ∨ t = s.runCleared ∧ x ≠ .error)

/-- R182: a data byte in a frame. -/
theorem exec_dataSymbol (hp : s.passing f) (hl : s.link.inState = .up) (b : Byte) :
    exec (.validSymbol (.data b)) s = .next (s.runCleared.symbolInFrame f (.byte b)) := by
  obtain ⟨hheld, hframe⟩ := hp
  simp only [exec, execValidSymbol, hheld, State.symbolArrives, State.dataArrives, hl, hframe,
    State.validLink_runCleared hl, Bool.false_eq_true, if_false, if_true]

theorem brings_data (hp : s.passing f) (hl : s.link.inState = .up) (b : Byte) :
    Brings (.validSymbol (.data b)) f (.byte b) s :=
  ⟨s.runCleared, exec_dataSymbol hp hl b, .inr ⟨rfl, nofun⟩⟩

theorem brings_symbolError (hp : s.passing f) (hl : s.link.inState = .up) : Brings .symbolError f .error s := by
  obtain ⟨hheld, hframe⟩ := hp
  refine ⟨s, ?_, .inl rfl⟩
  simp only [exec, execSymbolError, hheld, State.errorArrives, hl, hframe, Bool.false_eq_true, if_false]

/-- R178: an idle of either kind, in a frame. -/
theorem idleArrives_inFrame (hf : s.fp.frame = some f) (hl : s.link.inState = .up) (mark : Option Byte) (out : OutSym) :
    s.idleArrives mark out = s.runCleared.symbolInFrame f .idle := by
  simp only [State.idleArrives, hl, hf, State.validLink_runCleared hl, if_true]

theorem brings_idle (hp : s.passing f) (hl : s.link.inState = .up) {sym : Symbol} {mark : Option Byte} {out : OutSym}
    (hsym : s.symbolArrives sym = s.idleArrives mark out) : Brings (.validSymbol sym) f .idle s := by
  obtain ⟨hheld, hframe⟩ := hp
  refine ⟨s.runCleared, ?_, .inr ⟨rfl, nofun⟩⟩
  simp only [exec, execValidSymbol, hheld, hsym, idleArrives_inFrame hframe hl, Bool.false_eq_true, if_false]

section
variable {c : Instr} (hc : Brings c f x s) (hp : s.passing f)
include hc hp

/-- The last symbol of a header. -/
theorem Brings.header (hd : f.headerDue [x] = true) : exec c s = exec (.frameHeader [x]) s := by
  obtain ⟨t, he, ht⟩ := hc
  rw [he, State.symbolInFrame_header hd, exec_frameHeader hp hd]
  rcases ht with rfl | ⟨rfl, hx⟩
  · rfl
  · rw [State.headerArrives_runCleared hx]

/-- The last symbol of a next-address field. -/
theorem Brings.field (hd : f.fieldDue [x] = true) : exec c s = exec (.addressField [x]) s := by
  obtain ⟨t, he, ht⟩ := hc
  rw [he, State.symbolInFrame_field hd, exec_addressField hp hd]
  rcases ht with rfl | ⟨rfl, hx⟩
  · rfl
  · rw [State.fieldArrives_runCleared hx]

/-- The last symbol of a bad segment. -/
theorem Brings.badSegment (hd : f.badSegmentDue [x] = true) : exec c s = exec (.badSegment [x]) s := by
  obtain ⟨hl, hb⟩ := Frame.badSegmentDue_iff.1 hd
  obtain ⟨t, he, ht⟩ := hc
  rw [he, State.symbolInFrame_segment hl, State.segmentArrives_bad hb, exec_badSegment hp hd]
  rcases ht with rfl | ⟨rfl, hx⟩
  · rfl
  · rw [State.badSegmentArrives_runCleared hx]

/-- R178, R150: a symbol that is no byte completes a header, a field or a segment, which is then bad. -/
theorem Brings.completes (hx : Sym.damages x = true) :
    (f.headerDue [x] = true → exec c s = exec (.frameHeader [x]) s) ∧
    (f.fieldDue [x] = true → exec c s = exec (.addressField [x]) s) ∧
    (f.lastOfSegment = true → f.badSegmentDue [x] = true ∧ exec c s = exec (.badSegment [x]) s) := by
  refine ⟨hc.header hp, hc.field hp, fun hl => ?_⟩
  have hd : f.badSegmentDue [x] = true := Frame.badSegmentDue_iff.2 ⟨hl, badSegmentSyms_of_damages hx _⟩
  exact ⟨hd, hc.badSegment hp hd⟩

end

section
variable {b : Byte} (hp : s.passing f) (hl : s.link.inState = .up) (hd : f.lastOfSegment = true)
include hp hl hd

/-- The last byte of a segment. -/
theorem exec_lastByte : exec (.validSymbol (.data b)) s = .next (s.runCleared.segmentArrives f [.byte b]) := by
  rw [exec_dataSymbol hp hl, State.symbolInFrame_segment hd]

/-- The last byte of an EMPTY segment. -/
theorem exec_lastByte_empty {body : List Byte} (h : f.arrived.drop 8 ++ [.byte b] = (emptyBytes body).map Sym.byte) :
    exec (.validSymbol (.data b)) s = exec (.emptySegment body) s := by
  have hlen := (Frame.hasSegment_of_lastOfSegment hd).2
  rw [exec_lastByte hp hl hd, exec_emptySegment hp (Frame.segmentDue_of_last hd h), State.segmentArrives_empty h,
    State.emptyArrives_runCleared (emptyBytes_length body) (by omega)]

/-- The last byte of a request. -/
theorem exec_lastByte_request {c : Instr} {code : Byte} {rq : Request} (hc : anyRequest c = some (code, rq))
    (h32 : rq.payload.length = 32) (h : f.arrived.drop 8 ++ [.byte b] = (requestBytes code rq).map Sym.byte) :
    exec (.validSymbol (.data b)) s = exec c s := by
  have hlen := (Frame.hasSegment_of_lastOfSegment hd).2
  have hdue : f.segmentDue (requestBytes code rq) = true := Frame.segmentDue_of_last hd h
  rw [exec_lastByte hp hl hd, exec_anyRequest hc, State.segmentArrives_request h32 h,
    State.requestArrives_runCleared (requestBytes_length code rq) (by omega)]
  obtain ⟨hheld, hframe⟩ := hp
  simp only [State.withRequest, hheld, hframe, hdue, Bool.false_eq_true, if_false, if_true]

/-- The last byte of a RESPONSE segment. -/
theorem exec_lastByte_response {body : List Byte}
    (h : f.arrived.drop 8 ++ [.byte b] = (withCheck (2 :: body)).map Sym.byte) :
    exec (.validSymbol (.data b)) s = .next { s with
      fp := { s.fp with frame := some { f with arrived := f.arrived ++ [.byte b] } }
      link := { s.link with
        line := drain (replaceTail 39 (((f.arrived.drop 8).map Sym.value).map OutSym.data) s.link.line ++ [.data b])
        errorRun := 0 } } := by
  have hlen := (Frame.hasSegment_of_lastOfSegment hd).2
  have hsize : (withCheck (2 :: body)).length = 40 := by
    have hcount := congrArg List.length h
    simpa [hlen] using hcount.symm
  have hbody : body.length = 37 := by simpa [withCheck, bytes16] using hsize
  have hfront : ((f.arrived.drop 8).map Sym.value).length = 39 := by simp [hlen]
  have hbytes : withCheck (2 :: body) = (f.arrived.drop 8).map Sym.value ++ [b] := by
    rw [← map_value_bytes (withCheck (2 :: body)), ← h, List.map_append]
    rfl
  rw [exec_lastByte hp hl hd, State.segmentArrives_response hbody h, State.forwardSegment,
    State.passSegment_bytes hsize (by omega), hlen, hbytes, List.map_append, List.drop_left' hfront,
    List.take_left' (by simpa using hfront), List.drop_left' (by simpa using hfront)]
  rfl

end

end

/-- Settles O24: each part is completed by its own step's lemma; a symbol that is no byte makes the segment bad. -/
theorem lastByteHasStepEffect : Obligations.LastByteHasStepEffect := by
  intro f s hp hl
  refine ⟨?_, fun b => ⟨?_, ?_, ?_, ?_, ?_, ?_⟩, ?_⟩
  · rw [exec_frameEnd hp]
    simp only [exec, execValidSymbol, hp.1, State.symbolArrives, State.endArrives, hl, hp.2, Bool.false_eq_true,
      if_false, if_true]
  · exact (brings_data hp hl b).header hp
  · exact (brings_data hp hl b).field hp
  · exact (brings_data hp hl b).badSegment hp
  · exact fun body hd h => exec_lastByte_empty hp hl hd h
  · exact fun c code rq hc h32 hd h => exec_lastByte_request hp hl hd hc h32 h
  · exact fun body hd h => exec_lastByte_response hp hl hd h
  · exact ⟨(brings_symbolError hp hl).completes hp rfl, (brings_idle hp hl (sym := .plainIdle) rfl).completes hp rfl,
      fun a => (brings_idle hp hl (sym := .breakIdle a) rfl).completes hp rfl⟩

end Sys2Proof.Machine
end

section
/-! SUPPORT. Symbols at the node outside a frame in passage: the IN link while it is not UP, the idles relayed, the
start delimiter; and the line as it leaves OUT. -/

namespace Sys2Proof.Machine

/-! ### The line -/

theorem OutSym.isIdle_iff {x : OutSym} : x.isIdle = true ↔ x = .plainIdle ∨ ∃ a, x = .breakIdle a := by
  cases x <;> simp [OutSym.isIdle]

/-- An idle that stays at the head of the line has less than a forwarding delay behind it. -/
theorem length_lt_of_drain_eq_cons {x : OutSym} {rest line : List OutSym} (hd : drain line = x :: rest)
    (hx : x.isIdle = true) : rest.length < Config.forwardDelay := by
  induction line with
  | nil => exact nomatch hd
  | cons y ys ih =>
    by_cases hy : y.isIdle = true ∧ Config.forwardDelay ≤ ys.length
    · rw [drain, if_pos hy] at hd
      exact ih hd
    · rw [drain, if_neg hy] at hd
      obtain ⟨rfl, rfl⟩ := List.cons.inj hd
      exact Nat.not_le.1 fun hl => hy ⟨hx, hl⟩

/-- Settles O9: what leaves is said by `drain_spec`, and an idle with a delay behind it does not stay. -/
theorem onlyDelayedIdlesLeaveTheLine : Obligations.OnlyDelayedIdlesLeaveTheLine := by
  intro line
  obtain ⟨gone, hline, hidle, hdelay⟩ := drain_spec line
  exact ⟨gone, hline, fun x hx => OutSym.isIdle_iff.1 (hidle x hx), hdelay, fun x rest hd hx =>
    length_lt_of_drain_eq_cons hd (OutSym.isIdle_iff.2 hx)⟩

/-! ### The commands -/

section
variable {s : State} (hh : s.held = false)
include hh

theorem exec_validSymbol (sym : Symbol) : exec (.validSymbol sym) s = .next (s.symbolArrives sym) := by
  simp only [exec, execValidSymbol, hh, Bool.false_eq_true, if_false]

theorem exec_startDelimiter : exec .startDelimiter s = .next s.startArrives := by
  simp only [exec, execStartDelimiter, hh, Bool.false_eq_true, if_false]

theorem exec_symbolError : exec .symbolError s = .next s.errorArrives := by
  simp only [exec, execSymbolError, hh, Bool.false_eq_true, if_false]

theorem exec_delimiterLeavesOut {x : OutSym} {rest : List OutSym} (hd : firstDelimiter s.link.line = some (x, rest)) :
    exec .delimiterLeavesOut s = .next { s with link := s.link.leave x rest, mc := s.mc.frameLeft x } := by
  simp only [exec, execDelimiterLeavesOut, hh, hd, Bool.false_eq_true, if_false]

end

/-! ### The IN link while it is not UP -/

/-- R177: the symbols that the link counts as clean idles. -/
def Symbol.isIdle : Symbol → Bool
  | .plainIdle | .breakIdle _ => true
  | _ => false

/-- R181: the received break mark after a symbol that is no start delimiter. -/
def Symbol.markAfter (mark : Option Byte) : Symbol → Option Byte
  | .plainIdle => none
  | .breakIdle a => some a
  | _ => mark

/-- R177: the clean-idle count of a link that is not UP after a valid symbol. -/
def LinkInterface.idlesAfter (isIdle : Bool) (l : LinkInterface) : Nat :=
  if l.inState = .down then (if isIdle then 1 else 0)
  else if isIdle then min 1024 (l.cleanIdles + 1) else l.cleanIdles

section
variable {s : State} (hl : s.link.inState ≠ .up)
include hl

theorem State.validLink_settles (isIdle : Bool) : s.validLink isIdle = { s with link := { s.link with
    inState := .settling, cleanIdles := s.link.idlesAfter isIdle, errorRun := 0 } } := by
  cases hstate : s.link.inState with
  | up => exact absurd hstate hl
  | down => simp [State.validLink, LinkInterface.valid, LinkInterface.idlesAfter, hstate]
  | settling => simp [State.validLink, LinkInterface.valid, LinkInterface.idlesAfter, hstate, Config.settleIdles]

/-- R177, R181: a symbol that opens no frame moves the link and the break mark. -/
theorem State.symbolArrives_settles {sym : Symbol} (hs : sym ≠ .startDelimiter) : s.symbolArrives sym =
    (s.validLink (Symbol.isIdle sym)).setMark (Symbol.markAfter s.link.breakMark sym) := by
  have linkOnly : s.validLink false = (s.validLink false).setMark s.link.breakMark := by
    rw [State.validLink_settles hl]
    rfl
  cases sym with
  | startDelimiter => exact absurd rfl hs
  | plainIdle => exact if_neg hl
  | breakIdle a => exact if_neg hl
  | data b => exact (if_neg hl).trans linkOnly
  | endDelimiter => exact (if_neg hl).trans linkOnly
  | abortDelimiter => exact (if_neg hl).trans linkOnly

theorem State.startArrives_dropped : s.startArrives = ((s.validLink false).dropFrame).setMark none :=
  if_neg hl

end

/-- Settles O7: the link settles, and the count is the one that R177's table has for the state and the symbol. -/
theorem validSymbolSettlesInLink : Obligations.ValidSymbolSettlesInLink := by
  intro sym s hh hl hs
  rw [exec_validSymbol hh, State.symbolArrives_settles hl hs, State.validLink_settles hl, LinkInterface.idlesAfter]
  cases hstate : s.link.inState with
  | up => exact absurd hstate hl
  | down => cases sym <;> rfl
  | settling => cases sym <;> rfl

/-! ### An UP link with no frame in passage -/

section
variable {s : State} (hl : s.link.inState = .up) (hf : s.fp.frame = none)
include hl hf

theorem State.idleArrives_between (mark : Option Byte) (out : OutSym) :
    s.idleArrives mark out = (s.runCleared.push [out]).setMark mark := by
  simp only [State.idleArrives, hl, hf, State.validLink_runCleared hl, if_true]

theorem State.dataArrives_between (b : Byte) : s.dataArrives b = s.runCleared.relay := by
  simp only [State.dataArrives, hl, hf, State.validLink_runCleared hl, if_true]

theorem State.endArrives_between : s.endArrives = s.runCleared.relay.setDiscarding false := by
  simp only [State.endArrives, hl, hf, State.validLink_runCleared hl, if_true]

theorem State.abortArrives_between : s.abortArrives = s.runCleared.relay.setDiscarding false := by
  simp only [State.abortArrives, hl, hf, State.validLink_runCleared hl, if_true]

theorem State.errorArrives_between :
    s.errorArrives = State.relay { s with link := { s.link with errorRun := s.link.errorRun + 1 } } := by
  simp only [State.errorArrives, hl, hf]

theorem State.startArrives_accepted (hd : s.link.discarding = false) : s.startArrives =
    ((s.runCleared.setFrame (some (Frame.opened s.banks.active))).push [.startDelimiter]).setMark none := by
  simp only [State.startArrives, hl, hf, hd, State.validLink_runCleared hl, Bool.false_eq_true, if_false, if_true]

end

/-- Settles O8: an idle is relayed as it is, every other position by the received break mark. -/
theorem idlePositionsAreRelayed : Obligations.IdlePositionsAreRelayed := by
  intro s hh hl hf marked
  refine ⟨?_, fun a => ?_, fun b => ?_, ?_, ?_⟩
  · rw [exec_validSymbol hh, State.symbolArrives, State.idleArrives_between hl hf]
    rfl
  · rw [exec_validSymbol hh, State.symbolArrives, State.idleArrives_between hl hf]
    rfl
  · rw [exec_validSymbol hh, State.symbolArrives, State.dataArrives_between hl hf]
    rfl
  · rintro sym (rfl | rfl)
    · rw [exec_validSymbol hh, State.symbolArrives, State.endArrives_between hl hf]
      rfl
    · rw [exec_validSymbol hh, State.symbolArrives, State.abortArrives_between hl hf]
      rfl
  · rw [exec_symbolError hh, State.errorArrives_between hl hf]
    rfl

/-! ### Start delimiters -/

theorem State.startArrives_aborts {f : Frame} {s : State} (hl : s.link.inState = .up) (hf : s.fp.frame = some f)
    (hd : s.link.discarding = false) : s.startArrives = (s.runCleared.abortFrame f false).setMark none := by
  simp only [State.startArrives, hl, hf, hd, State.validLink_runCleared hl, Bool.false_eq_true, if_false, if_true]

/-- Settles O11: a start delimiter is dropped, accepted, or aborts, by the link and the frame in passage. -/
theorem startDelimiterAcceptsOrDrops : Obligations.StartDelimiterAcceptsOrDrops := by
  refine ⟨fun s => rfl, fun s hh hl => ?_, fun s hh hl hd hf => ?_, fun f s hp hl hd => ?_⟩
  · rw [exec_startDelimiter hh, State.startArrives_dropped hl, State.validLink_settles hl, LinkInterface.idlesAfter]
    rfl
  · rw [exec_startDelimiter hh, State.startArrives_accepted hl hf hd]
    rfl
  · rw [exec_startDelimiter hp.1, State.startArrives_aborts hl hp.2 hd, State.abortFrame_eq]
    simp only [Bool.false_eq_true, false_and, if_false]
    rfl

/-! ### OUT -/

theorem exec_linkUp {s : State} (hh : s.held = false) (hl : s.link.inState = .settling)
    (hc : s.link.cleanIdles = 1024) : exec .linkUp s = .next { s with link := s.link.rise } := by
  have hdue : s.linkUpDue = true := by simp [State.linkUpDue, hh, hl, hc, Config.settleIdles]
  simp only [exec, execLinkUp, hdue, if_true]

theorem LinkInterface.rise_brk {l : LinkInterface} (h : l.out = .brk) :
    l.rise = { l with inState := .up, out := .idle, line := List.replicate 48 .plainIdle } :=
  if_pos h

/-- R180: OUT when an end or abort delimiter leaves. -/
theorem LinkInterface.leave_ending {x : OutSym} (hx : x.isEnding = true) (rest : List OutSym) (l : LinkInterface) :
    l.leave x rest =
      if l.inState ≠ .up ∧ ∀ y ∈ rest, y.isEnding = false then { l with out := .brk, line := [] }
      else { l with out := .idle, line := rest } := by
  have hstart : x ≠ .startDelimiter := fun h => by simp [h, OutSym.isEnding] at hx
  have hlast : rest.any OutSym.isEnding = false ↔ ∀ y ∈ rest, y.isEnding = false := by
    simp only [List.any_eq_false, Bool.not_eq_true]
  rw [LinkInterface.leave, if_neg hstart]
  exact ite_congr (propext (and_congr_right fun _ => hlast)) (fun _ => rfl) (fun _ => rfl)

/-- Settles O12: the link rises, and the first delimiter of the line leaves with what is before it. -/
theorem outTransmitStateMoves : Obligations.OutTransmitStateMoves := by
  refine ⟨fun s hh hl hc ho => ?_, fun s ho => if_pos ho, fun front rest s hh hline hfront => ?_,
    fun front rest x s hh hline hx hfront => ?_⟩
  · rw [exec_linkUp hh hl hc, LinkInterface.rise_brk ho]
  · have hfirst : firstDelimiter s.link.line = some (.startDelimiter, rest) := by
      rw [hline, firstDelimiter_append front rest _ (.inl rfl) hfront]
    exact exec_delimiterLeavesOut hh hfirst
  · have hend : x.isEnding = true := by
      rcases hx with rfl | rfl <;> rfl
    have hfirst : firstDelimiter s.link.line = some (x, rest) := by
      rw [hline, firstDelimiter_append front rest x (.inr hend) hfront]
    rw [exec_delimiterLeavesOut hh hfirst, LinkInterface.leave_ending hend, ModeController.frameLeft, if_pos hend]

end Sys2Proof.Machine
end

section
/-! SUPPORT. Positions of a frame in passage that complete no part of it, or follow its trailer position. -/

namespace Sys2Proof.Machine

section
variable {f : Frame} {t : FrameType} {L : Nat} {x : Sym} {s : State}

/-! ### Positions that complete no part of the frame -/

theorem Frame.excessDue_of_good (hg : f.header = .good t L) (he : expectedLength t L ≤ f.arrived.length) :
    f.excessDue = true := by
  simp only [Frame.excessDue, hg, decide_eq_true he]

/-- A position after the tenth that is not the last of a segment completes no part of the frame. -/
theorem State.symbolInFrame_late (h : 10 ≤ f.arrived.length) (hs : f.lastOfSegment = false) :
    s.symbolInFrame f x = s.frameSymbol f x := by
  have hh : f.headerDue [x] = false := Bool.eq_false_iff.2 fun hd => by
    have h8 := (Frame.headerDue_iff.1 hd).2.1
    simp only [List.length_singleton] at h8
    omega
  have hf : f.fieldDue [x] = false := Bool.eq_false_iff.2 fun hd => by
    have h10 := (Frame.header_ne_awaited_of_fieldDue hd).2
    simp only [List.length_singleton] at h10
    omega
  simp only [State.symbolInFrame, hh, hf, hs, Bool.false_eq_true, if_false]

theorem State.symbolInFrame_full (h : f.arrived.length = 564) : s.symbolInFrame f x = s.frameSymbol f x :=
  State.symbolInFrame_late (by omega) <| Bool.eq_false_iff.2 fun hs => by
    have h47 := (Frame.hasSegment_of_lastOfSegment hs).2
    omega

/-- A frame whose trailer position has passed has no segment left to complete. -/
theorem State.symbolInFrame_excess (hg : f.header = .good t L) (he : expectedLength t L ≤ f.arrived.length) :
    s.symbolInFrame f x = s.frameSymbol f x := by
  cases t with
  | process =>
    simp only [expectedLength] at he
    refine State.symbolInFrame_late (by omega) <| Bool.eq_false_iff.2 fun hs => ?_
    have h47 := (Frame.hasSegment_of_lastOfSegment hs).2
    omega
  | strobe =>
    simp only [expectedLength] at he
    exact State.symbolInFrame_late (by omega) (by simp [Frame.lastOfSegment, Frame.hasSegment, hg])
  | address =>
    simp only [expectedLength] at he
    exact State.symbolInFrame_late (by omega) (by simp [Frame.lastOfSegment, Frame.hasSegment, hg])

/-! ### What such a position does -/

theorem State.frameSymbol_passes (hexc : f.excessDue = false) (hlen : f.arrived.length < 564) :
    s.frameSymbol f x = { s with
      fp := { s.fp with frame := some { f with
        arrived := f.arrived ++ [x], damaged := f.damaged || [x].any Sym.damages } }
      link := { s.link with
        line := drain (s.link.line ++ [s.sentSymbol f x]), errorRun := errorRunAfter s.link.errorRun [x] } } := by
  have hmax : f.arrived.length ≠ Config.maxFrameBytes := Nat.ne_of_lt hlen
  rw [State.frameSymbol, if_neg hmax, State.poisonIfExcess_of_not_due hexc]
  rfl

/-- R187: nothing of the image stands after the trailer position, so an excess symbol leaves as it arrived. -/
theorem State.sentSymbol_excess (hg : f.header = .good t L) (he : expectedLength t L ≤ f.arrived.length) :
    s.sentSymbol f x = Sym.out x := by
  cases x with
  | error => rfl
  | idle => rfl
  | byte b =>
    refine congrArg OutSym.data (State.sentByte_outside fun L' hg' _ _ => ?_)
    obtain ⟨rfl, rfl⟩ := HeaderMark.good.inj (hg.symm.trans hg')
    simp only [expectedLength] at he
    omega

theorem State.poisonIfExcess_good (hg : f.header = .good t L) : s.poisonIfExcess f = { s with link := { s.link with
    line := if f.arrived.length = expectedLength t L then
      writeTrailer f.arrived.length false s.link.line else s.link.line } } := by
  simp only [State.poisonIfExcess, hg]
  split <;> rfl

/-- R187: the first position after the trailer position has that position written poisoned. -/
theorem State.frameSymbol_excess (hg : f.header = .good t L) (he : expectedLength t L ≤ f.arrived.length)
    (hlen : f.arrived.length < 564) : s.frameSymbol f x = { s with
      fp := { s.fp with frame := some { f with
        arrived := f.arrived ++ [x], damaged := f.damaged || [x].any Sym.damages } }
      link := { s.link with
        line := drain ((if f.arrived.length = expectedLength t L then
          writeTrailer f.arrived.length false s.link.line else s.link.line) ++ [Sym.out x])
        errorRun := errorRunAfter s.link.errorRun [x] } } := by
  have hmax : f.arrived.length ≠ Config.maxFrameBytes := Nat.ne_of_lt hlen
  rw [State.frameSymbol, if_neg hmax, State.sentSymbol_excess hg he, State.poisonIfExcess_good hg]
  rfl

/-- R182, R188: the 565th position. -/
theorem State.frameSymbol_full (h : f.arrived.length = 564) : s.frameSymbol f x = { s with
    fp := { s.fp with frame := none }
    stats := { s.stats with aborted := satInc s.stats.aborted }
    store := { s.store with framePending := FramePending.empty }
    link := { s.link with
      errorRun := errorRunAfter s.link.errorRun [x]
      discarding := true
      line := drain (f.lineWhenFull s.link.line ++ [.abortDelimiter]) } } := by
  rw [State.frameSymbol, if_pos (by exact h), State.tooLong, State.poisonIfExcess_full h, State.abortFrame_eq]
  simp only [Bool.false_eq_true, false_and, if_false]

end

/-! ### Symbols that damage the frame -/

section
variable {x : Sym} (hx : Sym.damages x = true)
include hx

theorem Sym.out_of_damages : Sym.out x = .error := by
  cases x with
  | byte b => exact nomatch hx
  | error => rfl
  | idle => rfl

theorem State.sentSymbol_of_damages (f : Frame) (s : State) : s.sentSymbol f x = .error := by
  cases x with
  | byte b => exact nomatch hx
  | error => rfl
  | idle => rfl

theorem damaged_or_any (damaged : Bool) : (damaged || [x].any Sym.damages) = true := by
  simp [hx]

end

/-- The node with this run of symbol errors. -/
def State.withRun (run : Nat) (s : State) : State := { s with link := { s.link with errorRun := run } }

/-- Settles O10: each of the three symbols is a damaging position of the frame, once the link has set its error run. -/
theorem symbolErrorEffects : Obligations.SymbolErrorEffects := by
  refine ⟨fun s hh hl => ?_, fun s hh hl => ?_, ?_⟩
  · simp only [exec_symbolError hh, State.errorArrives, hl]
  · simp only [exec_symbolError hh, State.errorArrives, hl]
  · intro f s hp hl arrives
    have damages : ∀ {c x run before}, Sym.damages x = true →
        exec c s = .next ((s.withRun before).symbolInFrame f x) → errorRunAfter before [x] = run →
        arrives c x run := by
      rintro c x _ before hx hc rfl
      refine ⟨fun hheader hfield hseg hexc hlen => hc.trans ?_, fun t L hg he hlen => hc.trans ?_,
        fun hfull => hc.trans ?_⟩
      · have hpart : (s.withRun before).symbolInFrame f x = (s.withRun before).frameSymbol f x := by
          simp only [State.symbolInFrame, hheader, hfield, hseg, Bool.false_eq_true, if_false]
        rw [hpart, State.frameSymbol_passes hexc hlen, State.sentSymbol_of_damages hx, damaged_or_any hx]
        rfl
      · rw [State.symbolInFrame_excess hg he, State.frameSymbol_excess hg he hlen, Sym.out_of_damages hx,
          damaged_or_any hx]
        rfl
      · rw [State.symbolInFrame_full hfull, State.frameSymbol_full hfull]
        rfl
    have damagesAsIdle : ∀ {sym mark out}, s.symbolArrives sym = s.idleArrives mark out →
        arrives (.validSymbol sym) .idle 0 := by
      intro sym mark out hsym
      refine damages (before := 0) rfl ?_ rfl
      rw [exec_validSymbol hp.1, hsym, idleArrives_inFrame hp.2 hl]
      rfl
    refine ⟨damages (before := s.link.errorRun) rfl ?_ rfl, damagesAsIdle rfl, fun a => damagesAsIdle rfl⟩
    simp only [exec_symbolError hp.1, State.errorArrives, hl, hp.2]
    rfl

/-! ### Excess data bytes -/

theorem exec_excessDataByte {f : Frame} {s : State} (hp : s.passing f) (hl : s.link.inState = .up)
    (hexc : f.excessDue = true) (b : Byte) :
    exec (.excessDataByte b) s = .next (s.runCleared.frameSymbol f (.byte b)) := by
  obtain ⟨hheld, hframe⟩ := hp
  simp only [exec, execExcessDataByte, hheld, hframe, hexc, State.validLink_runCleared hl, Bool.false_eq_true,
    if_false, if_true]

/-- Settles O25: an excess byte passes as any position after the trailer position does, until the frame is full. -/
theorem excessByteForwarded : Obligations.ExcessByteForwarded := by
  intro f t L b s hp hl hg he
  have hexcess := exec_excessDataByte hp hl (Frame.excessDue_of_good hg he) b
  refine ⟨?_, fun hlen => hexcess.trans ?_, fun hfull => hexcess.trans ?_⟩
  · rw [exec_dataSymbol hp hl, State.symbolInFrame_excess hg he, hexcess]
  · have hdamaged : (f.damaged || [Sym.byte b].any Sym.damages) = f.damaged := Bool.or_false _
    rw [State.frameSymbol_excess hg he hlen, hdamaged]
    rfl
  · rw [exec_frameAbort hp, State.abortFor_tooLong hl hfull, State.frameSymbol_full hfull]
    rfl

end Sys2Proof.Machine
end

section
/-! SUPPORT. Which headers and which trailers are good, and what the outgoing trailer position holds. -/

namespace Sys2Proof.Machine

/-! ### Headers -/

/-- Settles O14: what is judged bad goes the way of `State.badHeader`. -/
theorem badHeaderForwarded : Obligations.BadHeaderForwarded := by
  intro f rest s hp hd hj
  rw [exec_frameHeader hp hd, State.headerArrives, hj]
  rfl

/-- R183: the code of a frame type. -/
def FrameType.code : FrameType → Byte
  | .process => 0xA1
  | .strobe => 0xA2
  | .address => 0xA3

theorem FrameType.ofCode_eq_some {c : Byte} {t : FrameType} : FrameType.ofCode c = some t ↔ c = t.code := by
  refine ⟨fun h => ?_, fun h => by subst h; cases t <;> rfl⟩
  unfold FrameType.ofCode at h
  split at h
  next hc => exact Option.some.inj h ▸ hc
  split at h
  next hc => exact Option.some.inj h ▸ hc
  split at h
  next hc => exact Option.some.inj h ▸ hc
  exact nomatch h

theorem FrameType.code_inj {t u : FrameType} : t.code = u.code ↔ t = u := by
  cases t <;> cases u <;> decide

theorem FrameType.exists_code_iff {c : Byte} :
    (∃ t : FrameType, c = t.code) ↔ c = 0xA1 ∨ c = 0xA2 ∨ c = 0xA3 := by
  constructor
  · rintro ⟨t, rfl⟩
    cases t <;> decide
  · rintro (rfl | rfl | rfl)
    · exact ⟨.process, rfl⟩
    · exact ⟨.strobe, rfl⟩
    · exact ⟨.address, rfl⟩

/-- R183: which bytes are a good header, and what it says. -/
theorem headerOfBytes_eq_some {bs : List Byte} {h : Header} : headerOfBytes bs = some h ↔
    bs.getD 0 0 = h.type.code ∧ crc8 (bs.take 7) = bs.getD 7 0 ∧ (h.type = .process → h.length ≤ 512) ∧
      h.gen = bs.getD 1 0 ∧ h.length = (le16 (bs.getD 4 0) (bs.getD 5 0)).toNat ∧ h.hop = bs.getD 6 0 := by
  obtain ⟨type, gen, length, hop⟩ := h
  constructor
  · intro hb
    unfold headerOfBytes at hb
    split at hb
    · exact nomatch hb
    next t ht =>
    split at hb
    · exact nomatch hb
    next hcrc =>
    dsimp only at hb
    split at hb
    · exact nomatch hb
    next hlen =>
    obtain ⟨rfl, rfl, rfl, rfl⟩ := Header.mk.inj (Option.some.inj hb)
    exact ⟨FrameType.ofCode_eq_some.1 ht, Classical.not_not.1 hcrc, fun hp => Nat.not_lt.1 fun hl => hlen ⟨hp, hl⟩,
      rfl, rfl, rfl⟩
  · rintro ⟨hcode, hcrc, hlen, rfl, rfl, rfl⟩
    have hfits : ¬ (type = .process ∧ Config.maxImage < (le16 (bs.getD 4 0) (bs.getD 5 0)).toNat) :=
      fun ⟨hp, hl⟩ => Nat.not_lt.2 (hlen hp) hl
    simp only [headerOfBytes, FrameType.ofCode_eq_some.2 hcode, if_neg (Classical.not_not.2 hcrc), if_neg hfits]

theorem judgeHeader_bytes (bs : List Byte) : judgeHeader (bs.map Sym.byte) = headerOfBytes bs := by
  simp only [judgeHeader, any_damages_bytes, map_value_bytes, Bool.false_eq_true, if_false]

/-- R178, R183: a position that is no byte makes the header bad. -/
theorem judgeHeader_damaged {syms : List Sym} (h : ∃ x ∈ syms, ∀ b, x ≠ .byte b) : judgeHeader syms = none := by
  obtain ⟨x, hx, hb⟩ := h
  have hdamages : Sym.damages x = true := by
    cases x with
    | byte b => exact absurd rfl (hb b)
    | error => rfl
    | idle => rfl
  exact if_pos (List.any_eq_true.2 ⟨x, hx, hdamages⟩)

/-- Settles O15: the fields of a good header are read from its bytes, and bytes that pass the checks give one. -/
theorem goodHeaderIffChecksHold : Obligations.GoodHeaderIffChecksHold := by
  intro b0 b1 b2 b3 b4 b5 b6 b7 L judged
  have hjudged : ∀ {h}, judged = some h ↔ b0 = h.type.code ∧ crc8 [b0, b1, b2, b3, b4, b5, b6] = b7 ∧
      (h.type = .process → h.length ≤ 512) ∧ h.gen = b1 ∧ h.length = L ∧ h.hop = b6 := by
    intro h
    have hL : (le16 b4 b5).toNat = L := le16_toNat b4 b5
    rw [← hL]
    exact (congrArg (· = some h) (judgeHeader_bytes [b0, b1, b2, b3, b4, b5, b6, b7])).to_iff.trans
      headerOfBytes_eq_some
  refine ⟨⟨fun hs => ?_, fun ⟨hcrc, htype, hlen⟩ => ?_⟩, fun h hj => ?_, fun syms => judgeHeader_damaged⟩
  · obtain ⟨h, hj⟩ := Option.isSome_iff_exists.1 hs
    obtain ⟨hcode, hcrc, hlen, -, hL, -⟩ := hjudged.1 hj
    exact ⟨hcrc, FrameType.exists_code_iff.1 ⟨h.type, hcode⟩, fun hp =>
      hL ▸ hlen (FrameType.code_inj.1 (hcode.symm.trans hp))⟩
  · obtain ⟨t, ht⟩ := FrameType.exists_code_iff.2 htype
    exact Option.isSome_iff_exists.2 ⟨⟨t, b1, L, b6⟩, hjudged.2
      ⟨ht, hcrc, fun hp => hlen (ht.trans (congrArg FrameType.code hp)), rfl, rfl, rfl⟩⟩
  · obtain ⟨hcode, -, -, hgen, hL, hhop⟩ := hjudged.1 hj
    have hiff : ∀ t : FrameType, h.type = t ↔ b0 = t.code := fun t => by rw [hcode, FrameType.code_inj]
    exact ⟨hgen, hL, hhop, hiff .process, hiff .strobe, hiff .address⟩

/-! ### Trailers -/

theorem Frame.trailerGood_iff {f : Frame} {t : FrameType} {L : Nat} : f.trailerGood t L = true ↔
    f.arrived.length = expectedLength t L ∧ f.damaged = false ∧
      (f.arrived.map Sym.value).drop (expectedLength t L - 4) =
        bytes32 (crc32 ((f.arrived.map Sym.value).take (expectedLength t L - 4))) := by
  simp only [Frame.trailerGood, Bool.and_eq_true, Bool.not_eq_true', beq_iff_eq, List.map_drop, List.map_take]
  rw [and_assoc, and_left_comm]

/-- R187: the trailer position takes the check over the symbols of the frame before it. -/
theorem writeTrailer_append {n : Nat} {before sent old : List OutSym} (hsent : sent.length = n - 4)
    (hold : old.length = 4) (good : Bool) : writeTrailer n good (before ++ sent ++ old) = before ++ sent ++
      overwrite old (bytes32 (if good then crc32 (sent.map OutSym.byte) else ~~~crc32 (sent.map OutSym.byte))) := by
  have hfront : (before ++ sent ++ old).length - 4 = (before ++ sent).length := by
    rw [List.length_append, hold, Nat.add_sub_cancel]
  have hbefore : (before ++ sent).length - (n - 4) = before.length := by
    rw [List.length_append, hsent, Nat.add_sub_cancel]
  simp only [writeTrailer, hfront, List.take_left, List.drop_left, hbefore]

/-- Settles O26: R185 gives the lengths; at a frame end the trailer position is written while the frame has one. -/
theorem trailerJudgedAndWritten : Obligations.TrailerJudgedAndWritten := by
  intro f t L expected bytes
  have hexpected : expectedLength t L = expected := by
    cases t with
    | process => exact (by omega : 52 + L = 8 + 40 + L + 4)
    | strobe => rfl
    | address => rfl
  refine ⟨hexpected ▸ Frame.trailerGood_iff, fun good before sent old h12 hle hsent hold => ?_⟩
  exact (if_pos ⟨h12, hexpected ▸ hle⟩).trans (writeTrailer_append hsent hold good)

end Sys2Proof.Machine
end

section
/-! SUPPORT. The formats of Chapter 10: byte order, the check values, the place of an event record. -/

namespace Sys2Proof.Machine

/-! ### Byte order (R191): the lowest byte goes first, then the bytes of the rest -/

theorem bytes16_append (hi lo : Byte) : bytes16 (hi ++ lo) = [lo, hi] := by
  rw [bytes16, BitVec.extractLsb'_append_eq_right, BitVec.extractLsb'_append_eq_left]

theorem bytes24_append (hi : Half) (lo : Byte) : bytes24 (hi ++ lo) = lo :: bytes16 hi := by
  rw [bytes24, bytes16, BitVec.extractLsb'_append_eq_right]
  simp only [BitVec.extractLsb'_append_eq_of_le, Nat.reduceSub, Nat.reduceLeDiff]

theorem bytes32_append (hi : PinWord) (lo : Byte) : bytes32 (hi ++ lo) = lo :: bytes24 hi := by
  rw [bytes32, bytes24, BitVec.extractLsb'_append_eq_right]
  simp only [BitVec.extractLsb'_append_eq_of_le, Nat.reduceSub, Nat.reduceLeDiff]

/-! ### Event records (Table 10-8) -/

/-- A pin number leaves bit 7 clear, so the edge there is added to it. -/
theorem edgeByte_eq_add (n : Pin) (rise : Bool) :
    BitVec.ofNat 8 n.val ||| (if rise then 0x00 else 0x80) = BitVec.ofNat 8 (n.val + (if rise then 0 else 128)) := by
  cases rise with
  | true => exact BitVec.or_zero
  | false =>
    have hdisjoint : ∀ n : Pin, BitVec.ofNat 8 n.val &&& 0x80#8 = 0#8 := by decide
    exact (BitVec.add_eq_or_of_and_eq_zero _ _ (hdisjoint n)).symm.trans (BitVec.ofNat_add n.val 128).symm

theorem EventRecord.bytes_eq (r : EventRecord) : r.bytes = bytes16 r.seq ++
    [BitVec.ofNat 8 (r.pin.val + (if r.rise then 0 else 128)), r.lostBefore] ++ bytes32 r.stamp := by
  rw [EventRecord.bytes, edgeByte_eq_add]

/-- Settles O54: a field's bytes are taken off its low end one by one; the closed values of Table 10-1 are evaluated. -/
theorem byteOrderAndChecks : Obligations.ByteOrderAndChecks := by
  refine ⟨fun b0 b1 => bytes16_append b1 b0, fun b0 b1 b2 => ?_, fun b0 b1 b2 b3 => ?_, EventRecord.bytes_eq,
    ?_, ?_, ?_⟩
  · rw [bytes24_append (b2 ++ b1), bytes16_append]
  · rw [bytes32_append (b3 ++ b2 ++ b1), bytes24_append (b3 ++ b2), bytes16_append]
  · decide +kernel
  · decide +kernel
  · decide +kernel

end Sys2Proof.Machine
end

section
/-! SUPPORT. The queue of commands: what runs its front command, and that no operation of the node touches it. -/

namespace Sys2Proof.Machine

/-- Settles O1: the two cases of the queue are the two cases of a step. -/
theorem stepRunsFrontCommand : Obligations.StepRunsFrontCommand := by
  refine ⟨fun c rest s hq => ?_, fun s hq => ?_⟩
  · rw [step, hq]
  · rw [step, hq]

section
variable (f : Frame) (s : State)

/-! ### Frames in passage -/

@[simp] theorem State.poisonIfExcess_pending : (s.poisonIfExcess f).pending = s.pending := by
  unfold State.poisonIfExcess
  split
  · split <;> rfl
  · rfl

@[simp] theorem State.abortFrame_pending (headless : Bool) : (s.abortFrame f headless).pending = s.pending := rfl

@[simp] theorem State.tooLong_pending : (s.tooLong f).pending = s.pending :=
  State.poisonIfExcess_pending f s

@[simp] theorem State.frameSymbol_pending (x : Sym) : (s.frameSymbol f x).pending = s.pending := by
  unfold State.frameSymbol
  split <;> simp

@[simp] theorem State.capture_pending (r : Row) : (s.capture f r).pending = s.pending := by
  unfold State.capture
  split <;> rfl

@[simp] theorem State.takeValue_pending (r : Row) : (s.takeValue f r).pending = s.pending := by
  unfold State.takeValue
  split <;> rfl

/-! ### Headers and next-address fields -/

@[simp] theorem State.switchTo_pending (g : Byte) : (s.switchTo g).pending = s.pending :=
  State.redecideWith_pending _ _

@[simp] theorem State.bindFrame_pending (L : Nat) : (s.bindFrame L f).pending = s.pending := by
  rw [State.bindFrame_eq]

@[simp] theorem State.processHeader_pending (h : Header) : (s.processHeader h f).pending = s.pending := by
  unfold State.processHeader
  split
  · rfl
  · split <;> simp

@[simp] theorem enterOutputs_pending (o : StrobeSet) : (enterOutputs o s).pending = s.pending := by
  rw [enterOutputs_frame]

@[simp] theorem State.applyStrobe_pending : s.applyStrobe.pending = s.pending := by
  unfold State.applyStrobe
  split <;> simp

@[simp] theorem State.strobeHeader_pending (h : Header) : (s.strobeHeader h).pending = s.pending := by
  unfold State.strobeHeader
  split <;> simp

@[simp] theorem State.handOn_pending (h : Header) : (s.handOn h f).pending = s.pending := by
  unfold State.handOn
  split <;> simp

@[simp] theorem State.headerArrives_pending (rest : List Sym) : (s.headerArrives f rest).pending = s.pending := by
  unfold State.headerArrives
  split
  · rfl
  · exact State.handOn_pending _ _ _

@[simp] theorem State.fieldArrives_pending (rest : List Sym) : (s.fieldArrives f rest).pending = s.pending := by
  unfold State.fieldArrives
  dsimp only
  split <;> rfl

/-! ### Segments -/

@[simp] theorem State.forwardSegment_pending (bytes : List Byte) : (s.forwardSegment f bytes).pending = s.pending := rfl

@[simp] theorem State.answerSegment_pending (bytes : List Byte) (r : Response) (a : Byte) :
    (s.answerSegment f bytes r a).pending = s.pending := rfl

@[simp] theorem State.badSegmentArrives_pending (rest : List Sym) :
    (s.badSegmentArrives f rest).pending = s.pending := by
  rw [State.badSegmentArrives_eq]

@[simp] theorem State.emptyArrives_pending (bytes : List Byte) : (s.emptyArrives f bytes).pending = s.pending := by
  unfold State.emptyArrives
  split
  · split <;> simp
  · simp

theorem noPayload_pending {rq : Request} {perform : State → Answer × State}
    (h : (perform s).2.pending = s.pending) : (noPayload rq perform s).2.pending = s.pending := by
  unfold noPayload
  split
  · rfl
  · exact h

@[simp] theorem startLong_pending (op : LongOp) (code : Byte) (rq : Request) :
    (startLong op code rq s).2.pending = s.pending := rfl

/-- Each of the fourteen executions leaves the queue of commands alone. -/
theorem Execution.pending {rq : Request} {perform : State → Answer × State} (h : Execution rq perform) :
    (perform s).2.pending = s.pending := by
  cases h with
  | openView | readRows | writeRows | arm | forcePin | releasePin =>
    dsimp only [Machine.openView, Machine.readRows, Machine.writeRows, armRequest, Machine.forcePin,
      Machine.releasePin]
    repeat' split
    all_goals simp
  | clone | disarm | restart | clearStats | clearCause => exact noPayload_pending s rfl
  | enterFallback | resume | releaseAddress =>
    refine noPayload_pending s ?_
    dsimp only [enterFallbackRequest, resumeRequest, Machine.releaseAddress]
    repeat' split
    all_goals simp

@[simp] theorem handleRequest_pending (code : Byte) (rq : Request) :
    (handleRequest code rq s).2.pending = s.pending :=
  (handleRequest_handles code rq).keeps (P := fun t => t.pending = s.pending) rfl (fun _ _ h => h)
    (fun _ _ h _ => h) (fun _ _ h => h) fun _ hx _ => hx.pending s.countConsumed

@[simp] theorem State.requestArrives_pending (bytes : List Byte) (code : Byte) (rq : Request) :
    (s.requestArrives f bytes rq (handleRequest code rq)).pending = s.pending := by
  have ht := handleRequest_pending s code rq
  unfold State.requestArrives
  split
  · split
    all_goals
      rename_i hr
      rw [hr] at ht
      exact ht
  · rfl

@[simp] theorem State.segmentArrives_pending (rest : List Sym) : (s.segmentArrives f rest).pending = s.pending := by
  unfold State.segmentArrives
  dsimp only
  repeat' split
  all_goals simp

/-! ### Frame ends -/

@[simp] theorem State.frameTaken_pending (policy : Row) : (s.frameTaken policy).pending = s.pending := by
  rw [State.frameTaken_frame]

@[simp] theorem goodFrameAtMode_pending (policy : Row) : (goodFrameAtMode policy s).pending = s.pending := by
  rw [goodFrameAtMode_frame]

@[simp] theorem applyFrame_pending (policy : Row) : (applyFrame policy s).pending = s.pending := by
  rw [applyFrame_eq, goodFrameAtMode_pending, State.frameTaken_pending]

@[simp] theorem takeAddress_pending (a : Option Byte) : (takeAddress a s).pending = s.pending := by
  cases a <;> rfl

@[simp] theorem deliverVerdict_pending (t : FrameType) (good : Bool) :
    (deliverVerdict f t good s).pending = s.pending := by
  cases t with
  | process =>
    simp only [deliverVerdict, State.emptyPending_pending]
    split <;> simp
  | strobe => rfl
  | address =>
    simp only [deliverVerdict]
    split <;> simp

@[simp] theorem State.endFrame_pending : (s.endFrame f).pending = s.pending := by
  unfold State.endFrame
  split
  · rfl
  · rfl
  · exact deliverVerdict_pending _ _ _ _

/-! ### The symbols of the IN link -/

@[simp] theorem State.symbolInFrame_pending (x : Sym) : (s.symbolInFrame f x).pending = s.pending := by
  unfold State.symbolInFrame
  repeat' split
  all_goals simp

theorem State.symbolArrives_pending (sym : Symbol) : (s.symbolArrives sym).pending = s.pending := by
  cases sym
  all_goals
    dsimp only [State.symbolArrives, State.dataArrives, State.startArrives, State.endArrives, State.abortArrives,
      State.idleArrives]
    repeat' split
    all_goals simp

theorem State.errorArrives_pending : s.errorArrives.pending = s.pending := by
  unfold State.errorArrives
  dsimp only
  repeat' split
  all_goals simp

@[simp] theorem State.abortAtLinkDown_pending : s.abortAtLinkDown.pending = s.pending := by
  unfold State.abortAtLinkDown
  split <;> rfl

theorem State.linkDown_pending : s.linkDown.pending = s.pending := by
  rw [State.linkDown_frame]
  rfl

theorem State.abortFor_pending (cause : AbortCause) : (s.abortFor cause f).pending = s.pending := by
  cases cause with
  | linkDown => exact s.abortAtLinkDown_pending
  | abortDelimiter | startDelimiter => rfl
  | tooLong =>
    simp only [State.abortFor]
    split <;> simp

/-! ### Samples -/

theorem State.takeSample_pending (raw : PinWord) : (s.takeSample raw).pending = s.pending := by
  rw [State.takeSample_frame]

end

/-! ### The commands -/

/-- Whatever a command does leaves the queue of commands as it is. -/
theorem pending_keptByActions (q : List Instr) : KeptByActions fun s => s.pending = q where
  beginReset _ _ _ h := h
  leaveReset _ _ h _ := h
  holdMoves _ _ h _ := h
  symbolArrives s sym h _ := (s.symbolArrives_pending sym).trans h
  errorArrives s h _ := s.errorArrives_pending.trans h
  linkRises _ h _ := h
  linkDown s h _ _ := s.linkDown_pending.trans h
  headerArrives s f rest h _ _ := (s.headerArrives_pending f rest).trans h
  fieldArrives s f rest h _ _ := (s.fieldArrives_pending f rest).trans h
  badSegmentArrives s f rest h _ _ := (s.badSegmentArrives_pending f rest).trans h
  emptyArrives s f body h _ _ := (s.emptyArrives_pending f (emptyBytes body)).trans h
  requestArrives s f code rq h _ _ := (s.requestArrives_pending f (requestBytes code rq) code rq).trans h
  capture s f _ row h _ _ _ := (s.capture_pending f (s.boundRow f row)).trans h
  takeValue s f _ row h _ _ _ := (s.takeValue_pending f (s.boundRow f row)).trans h
  excessByte s f b h _ _ := ((s.validLink false).frameSymbol_pending f (.byte b)).trans h
  endFrame s f h _ := ((s.validLink false).endFrame_pending f).trans h
  abortFor s f cause h _ := (s.abortFor_pending f cause).trans h
  delimiterLeaves _ _ _ h _ _ := h
  sample s field h _ := (s.takeSample_pending (s.rawLevels field)).trans h
  expiry s h _ := (s.enterFallback_pending .timeout).trans h
  periodStart _ _ h _ _ := h
  widthReached _ _ h _ _ := h
  cloneDone _ _ _ h _ _ _ := h
  armed _ _ _ _ h _ _ _ _ := h
  invalid _ _ _ _ _ h _ _ _ _ := h
  tick _ _ h _ := h

/-- No command faults or is refused: each arm of the dispatch answers a next state, whatever its due test says. -/
theorem exec_answers_next (c : Instr) (s : State) : ∃ t, exec c s = .next t := by
  cases c <;> exact ⟨_, rfl⟩

/-- Settles O2: every command answers a next state, and what its actions do leaves the queue as it was. -/
theorem everyCommandAnswersNextAndKeepsQueue : Obligations.EveryCommandAnswersNextAndKeepsQueue := by
  intro c s
  obtain ⟨t, ht⟩ := exec_answers_next c s
  exact ⟨t, ht, (pending_keptByActions s.pending).exec c s t rfl ht⟩

end Sys2Proof.Machine
end
